-- ==== Sys2Proof/Word.lean ====
section
/-! DEFINITION. The word types of the LIN frame engine: bytes, host register addresses and identifiers (spec 00_scope.md R7). -/

namespace Sys2Proof

/-- An 8-bit register or stream byte (R7: register width 8 bits). -/
abbrev Byte := BitVec 8

/-- A host register address (R7, R40: 6 bits, 64 byte addresses). -/
abbrev Addr := BitVec 6

/-- A logical identifier (R7: 6 bits, values 0 to 63). -/
abbrev Ident := BitVec 6

end Sys2Proof
end

