-- ==== Sys2Proof/Syntax.lean ====
section
/-! DEFINITION. The names of the machine: its commands, roles, result kinds, micro-ops, port events, and what the outside does to it. -/

namespace Sys2Proof

/-- The seven commands of spec/opcode_table.json (30_encoding.md R64). The whole CMD byte is the
opcode; operands are register contents read at acceptance, so no constructor has an argument. -/
inductive Instr where
  /-- TX_FRAME, `transmit_frame(identifier, payload)` (R84). -/
  | txFrame
  /-- TX_HEADER, `transmit_header(identifier)` (R85). -/
  | txHeader
  /-- TX_RESPONSE, `transmit_response(payload)` (R86). -/
  | txResponse
  /-- RX_FRAME, `receive_frame(expected_payload_len)` (R88). -/
  | rxFrame
  /-- TX_RAW, `transmit_raw(bytes)` (R94). -/
  | txRaw
  /-- RX_RAW, `receive_raw(expected_len)` (R95). -/
  | rxRaw
  /-- WAKE, `wake_up()` (R97). -/
  | wake
  deriving DecidableEq, Repr

/-- The two roles (R3, R107). -/
inductive Role where
  | master
  | slave
  deriving DecidableEq, Repr, Inhabited

/-- A transceiver mode, the argument of `SetMode` (R11). -/
inductive Mode where
  | normal
  | sleep
  deriving DecidableEq, Repr

/-- MODE_SET's values (R34): nothing asked for since reset, or the last mode asked for. -/
inductive ModeMark where
  | unknown
  | known (m : Mode)
  deriving DecidableEq, Repr

/-- The two rates the engine passes to `SetBaud` (R33, R82); also BAUD_SET's values: `BREAK_BAUD`, or the mark NOMINAL. -/
inductive BaudRate where
  | nominal
  | breakRate
  deriving DecidableEq, Repr

/-- The results of a command, the values of STATUS.RESULT (30_encoding.md R66). -/
inductive Result where
  /-- NONE: no command has finished since reset, or one is running. -/
  | noResult
  /-- OK: the command succeeded. -/
  | ok
  /-- TRANSPORT_ERROR: a transport write, read or wake pulse came back short or failed. -/
  | transportError
  /-- CHECKSUM_MISMATCH: the received checksum byte is wrong. -/
  | checksumMismatch
  /-- IDENTIFIER_MISMATCH: the received identifier byte fails the role's check. -/
  | identifierMismatch
  /-- PAYLOAD_TOO_LARGE: LEN exceeds the command's bound. -/
  | payloadTooLarge
  /-- ILLEGAL_COMMAND: CMD was written with a reserved value. -/
  | illegalCommand
  deriving DecidableEq, Repr

/-- The sequencer's micro-ops (41_transmit.md R80). -/
inductive MicroOp where
  | mode (m : Mode)
  | delay (ms : Nat)
  | baud (r : BaudRate)
  | write (bs : List Byte)
  | read (m : Nat)
  | wakep
  | finishTx
  | finishRxFrame (n : Nat)
  | finishRxRaw (n : Nat)
  deriving DecidableEq, Repr

/-- The FINISH micro-ops (R79): those that end a command. -/
def MicroOp.isFinish : MicroOp → Bool
  | .finishTx => true
  | .finishRxFrame _ => true
  | .finishRxRaw _ => true
  | .mode _ => false
  | .delay _ => false
  | .baud _ => false
  | .write _ => false
  | .read _ => false
  | .wakep => false

/-- Port events, each with its arguments and the environment's answer (00_scope.md R11, 10_state.md R35). -/
inductive Event where
  /-- Transceiver Controller `set_mode(m)`. -/
  | setMode (m : Mode)
  /-- Clock `delay(ms)`. -/
  | delay (ms : Nat)
  /-- Transport `set_baud_rate(rate)`, the rate as a number. -/
  | setBaud (rate : Nat)
  /-- Transport `write(bytes)`, answered `taken`. -/
  | txWrite (bytes : List Byte) (taken : Nat)
  /-- Transport `read(buffer, n)`, answered `rx`. -/
  | rxRead (n : Nat) (rx : List Byte)
  /-- Transceiver Controller `wake_pulse()`, answered `ok`. -/
  | wakePulse (ok : Bool)
  deriving DecidableEq, Repr

/-- The two agents whose steps interleave (20_memory.md R52). -/
inductive Agent where
  | host
  | engine
  deriving DecidableEq, Repr, Inhabited

/-- What the outside does to the block: the host accesses of R10 and R69, and reset (R115). -/
inductive Input where
  /-- `RD a`: `MemRead(a, 1)`. -/
  | read (a : Addr)
  /-- `WR a, v`: `MemWrite(a, 1, v)`. -/
  | write (a : Addr) (v : Byte)
  /-- `POLL` (R69): repeat `RD 0x05` until bit 7 of the answer is 0. -/
  | poll
  /-- The receive expansions' last line (R69): `RD 0x20+i` for each `i < n` if RESULT = OK. -/
  | readRxIfOk (n : Nat)
  /-- A host access of `n ≠ 1` bytes, which does not exist (R44). -/
  | otherWidth (n : Nat)
  /-- Reset, with the configuration inputs it samples (R115). -/
  | reset (role : Role) (slaveId : Ident)
  deriving DecidableEq, Repr

/-- The pseudo-instructions of R69, one per source call. -/
inductive HostCall where
  | transmitFrame (ident : Byte) (payload : List Byte)
  | transmitHeader (ident : Byte)
  | transmitResponse (payload : List Byte)
  | receiveFrame (n : Byte)
  | transmitRaw (bytes : List Byte)
  | receiveRaw (n : Byte)
  | wakeUp
  deriving DecidableEq, Repr

end Sys2Proof
end

