-- ==== Sys2Proof/Config.lean ====
section
/-! DEFINITION. What an instance of the block fixes (00_scope.md R7), and the values the environment draws (R11, R52). An `opaque` constant has no body: nothing in Lean can find its value. -/

namespace Sys2Proof

/-- `MAX_PAYLOAD`, 8 bytes (R7). -/
abbrev Config.maxPayload : Nat := 8

/-- `BUF_SIZE`, 16 bytes: TXBUF and RXBUF entries, and the raw length bound (R7). -/
abbrev Config.bufSize : Nat := 16

/-- The role strap of this instance, sampled at reset (R7, R115). OPEN; notes/assumptions/1.md. -/
opaque Config.cfgRole : Role

/-- The identifier strap of this instance, sampled at reset by a Slave (R7, R115). OPEN; notes/assumptions/1.md. -/
opaque Config.cfgSlaveId : Ident

/-- How far `NOMINAL_BAUD` lies above its least value 2 (R7: "at least 2"). OPEN; notes/assumptions/2.md. -/
opaque Config.nominalBaudAboveTwo : Nat

/-- `NOMINAL_BAUD` (R7): any integer of 2 or more. -/
def Config.nominalBaud : Nat := Config.nominalBaudAboveTwo + 2

/-- `T_MODE_MS` (R7), a natural number of milliseconds. OPEN; notes/assumptions/3.md. -/
opaque Config.tModeMs : Nat

/-- FREE VALUE: what `TxWrite` would answer at the d-th draw, before the bound of R11 is applied; notes/assumptions/4.md. -/
opaque Config.freeTaken : Nat → Nat

/-- FREE VALUE: what `RxRead` would answer at the d-th draw, before the bound of R11 is applied; notes/assumptions/4.md. -/
opaque Config.freeRx : Nat → List Byte

/-- FREE VALUE: what `WakePulse` answers at the d-th draw (R11); notes/assumptions/4.md. -/
opaque Config.freeWake : Nat → Bool

/-- FREE VALUE: which agent moves at the d-th draw, where both may (R52); notes/assumptions/5.md. -/
opaque Config.freeTurn : Nat → Agent

end Sys2Proof
end

