-- ==== Sys2Proof/WellFormed.lean ====
section
/-! DEFINITION. Well-formedness, as Bool checks: of commands, micro-ops and their programs, and of what the host offers. -/

namespace Sys2Proof

/-- Every command is well formed: a command is its opcode alone, with no operand field that could be out of range (R64, R68). -/
def Instr.wf : Instr → Bool
  | .txFrame => true
  | .txHeader => true
  | .txResponse => true
  | .rxFrame => true
  | .txRaw => true
  | .rxRaw => true
  | .wake => true

/-- The sizes a micro-op may have: a write is at most a raw buffer (a frame is 11 bytes, R59), a read at most
`BUF_SIZE` (R32), a frame finish at most `MAX_PAYLOAD`, a raw finish at most `BUF_SIZE` (R78). -/
def MicroOp.wf : MicroOp → Bool
  | .mode _ => true
  | .delay _ => true
  | .baud _ => true
  | .write bs => decide (bs.length ≤ Config.bufSize)
  | .read m => decide (m ≤ Config.bufSize)
  | .wakep => true
  | .finishTx => true
  | .finishRxFrame n => decide (n ≤ Config.maxPayload)
  | .finishRxRaw n => decide (n ≤ Config.bufSize)

/-- A program is well formed (R29, R30): its last micro-op, and no other, is a FINISH, it has at most 9, and each is well formed. -/
def programWf (p : List MicroOp) : Bool :=
  (p.getLast?.map MicroOp.isFinish).getD false
    && p.dropLast.all (fun u => !u.isFinish)
    && decide (p.length ≤ 9)
    && p.all MicroOp.wf

/-- An input is well formed: `otherWidth` names a width other than the one byte that exists (R44), and a buffer
read stays inside RXBUF (R28). -/
def Input.wf : Input → Bool
  | .read _ => true
  | .write _ _ => true
  | .poll => true
  | .readRxIfOk n => decide (n ≤ Config.bufSize)
  | .otherWidth n => decide (n ≠ 1)
  | .reset _ _ => true

/-- A pseudo-instruction is well formed when each payload byte has a TXBUF entry (R27), so that its expansion
writes no other register. -/
def HostCall.wf : HostCall → Bool
  | .transmitFrame _ p => decide (p.length ≤ Config.bufSize)
  | .transmitHeader _ => true
  | .transmitResponse p => decide (p.length ≤ Config.bufSize)
  | .receiveFrame _ => true
  | .transmitRaw bs => decide (bs.length ≤ Config.bufSize)
  | .receiveRaw _ => true
  | .wakeUp => true

end Sys2Proof
end

