-- ==== Sys2Proof/Decode.lean ====
section
/-! DEFINITION. The command decoder and encoder (30_encoding.md R64, R67), and the transaction word of test listings (R69). -/

namespace Sys2Proof

/-- Why a byte sequence is no command. -/
inductive DecodeReject where
  /-- There is no byte at all. -/
  | noByte
  /-- The byte is a reserved CMD value, `0x00` or `0x08` to `0xFF` (R67). -/
  | reservedCommand (v : Byte)
  deriving DecidableEq, Repr

/-- The command a CMD byte selects (R64: the whole byte is the opcode), or the rejection of a reserved value (R67). -/
def decodeCommand (v : Byte) : Except DecodeReject Instr :=
  match v.toNat with
  | 1 => .ok .txFrame
  | 2 => .ok .txHeader
  | 3 => .ok .txResponse
  | 4 => .ok .rxFrame
  | 5 => .ok .txRaw
  | 6 => .ok .rxRaw
  | 7 => .ok .wake
  | _ => .error (.reservedCommand v)

/-- Decoding a byte sequence: one command is one byte (R68); the rest is handed back. -/
def decode : List Byte → Except DecodeReject (Instr × List Byte)
  | [] => .error .noByte
  | v :: rest => (decodeCommand v).map fun i => (i, rest)

/-- The opcode of a command (R64). -/
def opcode : Instr → Byte
  | .txFrame => 0x01#8
  | .txHeader => 0x02#8
  | .txResponse => 0x03#8
  | .rxFrame => 0x04#8
  | .txRaw => 0x05#8
  | .rxRaw => 0x06#8
  | .wake => 0x07#8

/-- The bytes of a command: its opcode byte alone (R68). -/
def encode (i : Instr) : List Byte := [opcode i]

/-- The command read from a table word: every row is one byte (R68), so no other size and no wider value decodes. -/
def decodeTableWord (nbits w : Nat) : Option Instr :=
  if nbits = 8 ∧ w < 256 then
    match decode [BitVec.ofNat 8 w] with
    | .ok (i, _) => some i
    | .error _ => none
  else none

/-- The 16-bit transaction word of a host access (R69): bit 15 is W, bit 14 is 0, bits 13:8 the address, bits 7:0
the data, 0 for a read. Only `RD` and `WR` have a word. -/
def encodeTransaction : Input → Option (BitVec 16)
  | .read a => some (0#2 ++ a ++ 0#8)
  | .write a v => some (2#2 ++ a ++ v)
  | .poll => none
  | .readRxIfOk _ => none
  | .otherWidth _ => none
  | .reset _ _ => none

/-- The host access a transaction word stands for (R69). A word with bit 14 set, or a read with data, is none
(DESIGN CHOICE, notes/assumptions/20.md). -/
def decodeTransaction (w : BitVec 16) : Option Input :=
  if w.extractLsb' 14 2 = 2#2 then some (.write (w.extractLsb' 8 6) (w.extractLsb' 0 8))
  else if w.extractLsb' 14 2 = 0#2 ∧ w.extractLsb' 0 8 = 0#8 then some (.read (w.extractLsb' 8 6))
  else none

end Sys2Proof
end

