-- ==== Sys2Proof/Machine/FrameFunctions.lean ====
section
/-! DEFINITION. The combinational frame functions (40_frame_functions.md R70 to R75): parity, identifier byte, checksum. -/

namespace Sys2Proof.Machine

/-- The synch byte (R7, R59). -/
def synchByte : Byte := 0x55#8

/-- P0 (R62): `ID[0] ⊕ ID[1] ⊕ ID[2] ⊕ ID[4]`. -/
def parityP0 (id : Ident) : Bool :=
  id.getLsbD 0 ^^ id.getLsbD 1 ^^ id.getLsbD 2 ^^ id.getLsbD 4

/-- P1 (R62): `NOT(ID[1] ⊕ ID[3] ⊕ ID[4] ⊕ ID[5])`. -/
def parityP1 (id : Ident) : Bool :=
  !(id.getLsbD 1 ^^ id.getLsbD 3 ^^ id.getLsbD 4 ^^ id.getLsbD 5)

/-- A single bit, zero-extended to a byte. -/
def bitByte (b : Bool) : Byte := (BitVec.ofBool b).setWidth 8

/-- PARITY(id) (R70): `(p0 | (p1 << 1)) << 6`, in a byte. -/
def parity (id : Ident) : Byte :=
  (bitByte (parityP0 id) ||| (bitByte (parityP1 id) <<< 1)) <<< 6

/-- PID(id), the identifier byte (R71): `zext_8(id[5:0]) | PARITY(id)`. -/
def pid (id : Ident) : Byte := id.setWidth 8 ||| parity id

/-- PARITY_OK(b) (R72): `b == PID(b[5:0])`. -/
def parityOk (b : Byte) : Bool := b == pid (b.setWidth 6)

/-- `sum(P)` (R9): the natural-number sum of a byte list. -/
def byteSum (p : List Byte) : Nat := (p.map BitVec.toNat).sum

/-- CHECKSUM(P), the classic checksum (R73): `255 − (sum(P) mod 256)`. -/
def checksum (p : List Byte) : Byte := BitVec.ofNat 8 (255 - byteSum p % 256)

/-- CHECKSUM_OK(P, c) (R74): the construction formula on the receive side too. -/
def checksumOk (p : List Byte) (c : Byte) : Bool := c == checksum p

end Sys2Proof.Machine
end

