-- ==== Sys2Proof/Machine/State.lean ====
section
/-! DEFINITION. The state of the block and of what stands outside it, its reset, and the reasons a step can stop (10_state.md). -/

namespace Sys2Proof.Machine

/-- The outside's part of a run, as plain data: what the host does next and what it has read, whose turn it is,
and the ports' coming answers. None of it is the spec's state; notes/assumptions/4.md, 5.md and 6.md. -/
structure Env where
  /-- What the outside does next, in order. -/
  inputs : List Input
  /-- The answers host reads have got, oldest first (R69: `RD a -> v`). -/
  reads : List (Addr × Byte)
  /-- Who moves next, each time host and engine both may (R52). -/
  turns : List Agent
  /-- The coming answers of `TxWrite` (R11). -/
  txAnswers : List Nat
  /-- The coming answers of `RxRead` (R11). -/
  rxAnswers : List (List Byte)
  /-- The coming answers of `WakePulse` (R11). -/
  wakeAnswers : List Bool
  /-- How many free values have been drawn. -/
  draws : Nat
  deriving DecidableEq, Repr

/-- The state: every register and every hidden piece of 10_state.md, and the outside (`env`). -/
structure State where
  /-- CFG (R21): bit 0 is ROLE. -/
  cfg : Byte
  /-- BOUND_PID (R22). -/
  boundPid : Byte
  /-- CMD (R23): the last byte an idle write stored. -/
  cmd : Byte
  /-- ID (R24): bits 5:0 are the identifier. -/
  id : Byte
  /-- LEN (R25). -/
  len : Byte
  /-- STATUS (R26): bit 7 BUSY, bits 3:0 RESULT. -/
  status : Byte
  /-- TXBUF[0..15] (R27). -/
  txbuf : Vector Byte 16
  /-- RXBUF[0..15] (R28). -/
  rxbuf : Vector Byte 16
  /-- PHASE (R29). -/
  phase : BitVec 4
  /-- PROG (R30). -/
  prog : List MicroOp
  /-- FAIL (R31). -/
  fail : Bool
  /-- STAGE (R32). -/
  stage : List Byte
  /-- BAUD_SET (R33). -/
  baudSet : BaudRate
  /-- MODE_SET (R34). -/
  modeSet : ModeMark
  /-- HIST (R35). -/
  hist : List Event
  /-- The outside. -/
  env : Env
  deriving DecidableEq, Repr

/-- Why a step stops with a fault. -/
inductive Fault where
  /-- Raised by the engine's step when BUSY = 1 and PROG has no micro-op at PHASE. R29 and R30 rule such a state
  out and give it no behaviour; no run from reset reaches it. Safe: the model stops. notes/assumptions/14.md. -/
  | noMicroOp
  deriving DecidableEq, Repr

/-- Why a step is refused. -/
inductive Refusal where
  /-- Raised by no arm: every instruction of the opcode table has its meaning. Safe. -/
  | notModelled (mnemonic : String)
  /-- Raised by a host access of a width other than one byte (R44: "A model that is offered a host access of
  another width refuses it"). Safe: the model stops. -/
  | accessWidth (n : Nat)
  deriving DecidableEq, Repr

/-- The CFG byte a role strap gives (R21: Master 0, Slave 1, bits 7:1 zero). -/
def cfgOfRole : Role → Byte
  | .master => 0x00#8
  | .slave => 0x01#8

/-- The BOUND_PID byte at reset (R22). -/
def boundPidOf : Role → Ident → Byte
  | .master, _ => 0x00#8
  | .slave, sid => pid sid

/-- The outside with nothing placed: no host action pending, no answer fixed. -/
def Env.empty : Env :=
  { inputs := [], reads := [], turns := [], txAnswers := [], rxAnswers := [], wakeAnswers := [], draws := 0 }

/-- The reset state under given configuration inputs (R38, R115). -/
def State.resetWith (role : Role) (sid : Ident) : State :=
  { cfg := cfgOfRole role, boundPid := boundPidOf role sid,
    cmd := 0x00#8, id := 0x00#8, len := 0x00#8, status := 0x00#8,
    txbuf := Vector.replicate 16 0x00#8, rxbuf := Vector.replicate 16 0x00#8,
    phase := 0#4, prog := [], fail := false, stage := [],
    baudSet := .nominal, modeSet := .unknown, hist := [], env := Env.empty }

/-- The machine right after reset (R38, R115), with this instance's straps. -/
def State.reset : State := State.resetWith Config.cfgRole Config.cfgSlaveId

end Sys2Proof.Machine
end

