-- ==== Sys2Proof/Machine/Flags.lean ====
section
/-! DEFINITION. STATUS and its fields BUSY and RESULT (10_state.md R26, R36; 30_encoding.md R66). -/

namespace Sys2Proof.Machine

/-- The number of a result in STATUS.RESULT (R66). -/
def resultCode : Result → BitVec 4
  | .noResult => 0#4
  | .ok => 1#4
  | .transportError => 2#4
  | .checksumMismatch => 3#4
  | .identifierMismatch => 4#4
  | .payloadTooLarge => 5#4
  | .illegalCommand => 6#4

/-- The STATUS byte (R66: `BUSY << 7 | RESULT`). -/
def statusByte (busy : Bool) (r : Result) : Byte :=
  (bitByte busy <<< 7) ||| (resultCode r).setWidth 8

/-- STATUS.BUSY (R26: bit 7). -/
def State.busy (s : State) : Bool := s.status.getLsbD 7

/-- STATUS.RESULT (R26: bits 3:0). -/
def State.result (s : State) : BitVec 4 := s.status.extractLsb' 0 4

end Sys2Proof.Machine
end

