-- ==== Sys2Proof/Machine/Operands.lean ====
section
/-! DEFINITION. The operands a command reads from registers (30_encoding.md R64, R65) and the byte-list forms of R9. -/

namespace Sys2Proof.Machine

/-- CFG.ROLE (R21: bit 0). -/
def State.role (s : State) : Role := if s.cfg.getLsbD 0 then .slave else .master

/-- The identifier operand (R65): `reg[ID][5:0]`. -/
def State.identOperand (s : State) : Ident := s.id.setWidth 6

/-- The length operand `n` (R65): `reg[LEN]`, 8-bit unsigned. -/
def State.lenOperand (s : State) : Nat := s.len.toNat

/-- The payload operand (R65): `TXBUF[0..n-1]`. -/
def State.payload (s : State) : List Byte := s.txbuf.toList.take s.lenOperand

/-- The slice `l[i..j]`, both ends included; empty when `j < i` (R9). -/
def slice (l : List Byte) (i j : Nat) : List Byte := (l.drop i).take (j + 1 - i)

/-- Element `i` of a list the rules have bounded; past its end, where no rule reads, 0. -/
def byteAt (l : List Byte) (i : Nat) : Byte := l.getD i 0x00#8

end Sys2Proof.Machine
end

