-- ==== Sys2Proof/Machine/Ops.lean ====
section
/-! DEFINITION. The named operations over State: one update per field, the register space (20_memory.md), the
event history, the ports' answers, and the shared acceptance, finish and reset. -/

namespace Sys2Proof.Machine

/-- The outcome of a step of this machine. -/
abbrev Out := Host.Outcome State Fault Refusal

/-! ### Updates of one field -/

/-- `reg[CMD] <- v` (R23). -/
def State.setCmd (v : Byte) (s : State) : State := { s with cmd := v }

/-- A host write of ID (R24): stores `v & 0x3F`. -/
def State.setId (v : Byte) (s : State) : State := { s with id := v &&& 0x3F#8 }

/-- `reg[LEN] <- v` (R25). -/
def State.setLen (v : Byte) (s : State) : State := { s with len := v }

/-- `reg[STATUS] <- v` (R26: only the engine does this). -/
def State.setStatus (v : Byte) (s : State) : State := { s with status := v }

/-- TXBUF takes new contents (R27). -/
def State.setTxbuf (b : Vector Byte 16) (s : State) : State := { s with txbuf := b }

/-- RXBUF takes new contents (R28). -/
def State.setRxbuf (b : Vector Byte 16) (s : State) : State := { s with rxbuf := b }

/-- `phase <- PHASE + 1` (R29). -/
def State.nextPhase (s : State) : State := { s with phase := s.phase + 1#4 }

/-- `FAIL <- b` (R31). -/
def State.setFail (b : Bool) (s : State) : State := { s with fail := b }

/-- `STAGE <- rx` (R32). -/
def State.setStage (rx : List Byte) (s : State) : State := { s with stage := rx }

/-- `BAUD_SET <- r` (R33). -/
def State.setBaudSet (r : BaudRate) (s : State) : State := { s with baudSet := r }

/-- `MODE_SET <- m` (R34). -/
def State.setModeSet (m : Mode) (s : State) : State := { s with modeSet := .known m }

/-- Append one event, with its answer, to HIST (R35, R80). -/
def State.emit (e : Event) (s : State) : State := { s with hist := s.hist ++ [e] }

/-- The outside moves on; the block is untouched. -/
def State.setEnv (e : Env) (s : State) : State := { s with env := e }

/-! ### The host register space (20_memory.md) -/

/-- What a host read of an address returns (R41). Reserved addresses and reserved bits of CFG, ID and STATUS read 0 (R24, R42, R43). -/
def State.readReg (s : State) (a : Addr) : Byte :=
  match a.toNat with
  | 0x00 => s.cfg &&& 0x01#8
  | 0x01 => s.boundPid
  | 0x02 => s.cmd
  | 0x03 => s.id &&& 0x3F#8
  | 0x04 => s.len
  | 0x05 => s.status &&& 0x8F#8
  | n =>
    if h : 0x10 ≤ n ∧ n < 0x20 then s.txbuf[n - 0x10]
    else if h : 0x20 ≤ n ∧ n < 0x30 then s.rxbuf[n - 0x20]
    else 0x00#8

/-- What an idle host write stores, at every address but CMD's (R41): ID, LEN and TXBUF take the byte; read-only and
reserved addresses take nothing (R42, R43). The write to CMD starts a command and is `hostWrite`'s. -/
def State.writeReg (a : Addr) (v : Byte) (s : State) : State :=
  match a.toNat with
  | 0x03 => s.setId v
  | 0x04 => s.setLen v
  | n => if h : 0x10 ≤ n ∧ n < 0x20 then s.setTxbuf (s.txbuf.set (n - 0x10) v) else s

/-- Copy a byte list into a buffer from index `i` on: `for i in 0 .. n-1: RXBUF[i] <- …` (R89, R96). -/
def storeBytes (buf : Vector Byte 16) (i : Nat) : List Byte → Vector Byte 16
  | [] => buf
  | b :: bs => storeBytes (buf.setIfInBounds i b) (i + 1) bs

/-! ### The ports' answers (00_scope.md R11) -/

/-- The next answer of a port: the oldest one the state holds, or else a free value of the draw counter. -/
def drawFrom {α : Type} (script : List α) (free : Nat → α) (draws : Nat) : α × List α × Nat :=
  match script with
  | a :: rest => (a, rest, draws)
  | [] => (free draws, [], draws + 1)

/-- `TxWrite(bs) -> k`: any `k` from 0 to `len(bs)` (R11). -/
def State.drawTaken (len : Nat) (s : State) : Nat × State :=
  match drawFrom s.env.txAnswers Config.freeTaken s.env.draws with
  | (k, rest, d) => (min k len, s.setEnv { s.env with txAnswers := rest, draws := d })

/-- `RxRead(n) -> rx`: any byte list of length 0 to `n` (R11). -/
def State.drawRx (n : Nat) (s : State) : List Byte × State :=
  match drawFrom s.env.rxAnswers Config.freeRx s.env.draws with
  | (rx, rest, d) => (rx.take n, s.setEnv { s.env with rxAnswers := rest, draws := d })

/-- `WakePulse() -> ok`: any Boolean (R11). -/
def State.drawWake (s : State) : Bool × State :=
  match drawFrom s.env.wakeAnswers Config.freeWake s.env.draws with
  | (ok, rest, d) => (ok, s.setEnv { s.env with wakeAnswers := rest, draws := d })

/-- Which agent moves, where both may (R52). -/
def State.drawTurn (s : State) : Agent × State :=
  match drawFrom s.env.turns Config.freeTurn s.env.draws with
  | (who, rest, d) => (who, s.setEnv { s.env with turns := rest, draws := d })

/-! ### Acceptance, finish, reset -/

/-- `finish(code)` (R10, R100): the command ends, STATUS takes the code with BUSY 0, and nothing else changes. This is
how every error is reported (R102); there is no operation to return from one (R103). -/
def State.finish (r : Result) (s : State) : State := s.setStatus (statusByte false r)

/-- The last lines of R78: the command runs from PHASE 0 of `prog`, with FAIL and STAGE cleared and BUSY = 1, RESULT = NONE. -/
def State.start (prog : List MicroOp) (s : State) : State :=
  { s with prog := prog, phase := 0#4, fail := false, stage := [], status := statusByte true .noResult }

/-- Does LEN exceed a command's bound (R78)? A command without a bound ignores LEN (R85, R97). -/
def State.lenExceeds (bound : Option Nat) (s : State) : Bool :=
  match bound with
  | none => false
  | some b => decide (b < s.lenOperand)

/-- The acceptance step of a valid command (R78): CMD takes the opcode; a LEN above the bound ends the command with
PAYLOAD_TOO_LARGE; else its program starts. While BUSY = 1 the write has no effect (R46). -/
def acceptCommand (i : Instr) (bound : Option Nat) (prog : List MicroOp) (s : State) : Out :=
  if s.busy then .next s
  else if s.lenExceeds bound then .next ((s.setCmd (opcode i)).finish .payloadTooLarge)
  else .next ((s.setCmd (opcode i)).start prog)

/-- The acceptance step of a reserved CMD value (R78, R98): CMD takes it and the result is ILLEGAL_COMMAND. While
BUSY = 1 the write has no effect (R46). -/
def acceptIllegal (v : Byte) (s : State) : Out :=
  if s.busy then .next s else .next ((s.setCmd v).finish .illegalCommand)

/-- The reset event (R115): every piece of the block's state takes its reset value, in any state, also inside a
command (R116). The outside is not reset. -/
def State.resetBlock (role : Role) (sid : Ident) (s : State) : State :=
  (State.resetWith role sid).setEnv s.env

end Sys2Proof.Machine
end

