-- ==== Sys2Proof/Machine/Programs.lean ====
section
/-! DEFINITION. The wire layouts (30_encoding.md R59, R60) and the building blocks of the micro-op programs (41_transmit.md R81 to R83). -/

namespace Sys2Proof.Machine

/-- The number `SetBaud` is given (R82): `NOMINAL_BAUD`, or `BREAK_BAUD = floor(NOMINAL_BAUD / 2)`. -/
def baudValue : BaudRate → Nat
  | .nominal => Config.nominalBaud
  | .breakRate => Config.nominalBaud / 2

/-- A header's bytes after the break (R60). -/
def headerBytes (id : Ident) : List Byte := [synchByte, pid id]

/-- A response's bytes (R60). -/
def responseBytes (p : List Byte) : List Byte := p ++ [checksum p]

/-- A full frame's bytes after the break (R59): the header's, then the response's (R60). -/
def frameBytes (id : Ident) (p : List Byte) : List Byte := headerBytes id ++ responseBytes p

/-- BREAK (R82). -/
def breakOps : List MicroOp := [.baud .breakRate, .write [0x00#8], .baud .nominal]

/-- BRACKET(body) (R83). -/
def bracket (body : List MicroOp) : List MicroOp :=
  [.mode .normal, .delay Config.tModeMs] ++ body ++ [.mode .sleep, .delay Config.tModeMs]

/-- A transmit command's program (R81): the bracketed body, then FINISH_TX. -/
def transmitProgram (body : List MicroOp) : List MicroOp := bracket body ++ [.finishTx]

end Sys2Proof.Machine
end

