-- ==== Sys2Proof/Machine/Raw.lean ====
section
/-! DEFINITION. The raw stream commands TX_RAW and RX_RAW (43_raw.md R94 to R96). -/

namespace Sys2Proof.Machine

/-- TX_RAW's program (R94): the bytes go out unchanged, after a break. -/
def txRawProgram (p : List Byte) : List MicroOp := transmitProgram (breakOps ++ [.write p])

/-- RX_RAW's program (R95). -/
def rxRawProgram (n : Nat) : List MicroOp := [.read n, .finishRxRaw n]

/-- TX_RAW (R94): at most `BUF_SIZE` bytes. -/
def execTxRaw (s : State) : Out :=
  acceptCommand .txRaw (some Config.bufSize) (txRawProgram s.payload) s

/-- RX_RAW (R95): at most `BUF_SIZE` bytes. -/
def execRxRaw (s : State) : Out :=
  acceptCommand .rxRaw (some Config.bufSize) (rxRawProgram s.lenOperand) s

/-- FINISH_RXRAW(n) (R96). -/
def finishRxRawStep (n : Nat) (s : State) : State :=
  if s.stage.length < n then s.finish .transportError
  else (s.setRxbuf (storeBytes s.rxbuf 0 (s.stage.take n))).finish .ok

end Sys2Proof.Machine
end

