-- ==== Sys2Proof/Machine/Receive.lean ====
section
/-! DEFINITION. Frame reception: RX_FRAME and its finish (42_receive.md R88 to R92). -/

namespace Sys2Proof.Machine

/-- RX_FRAME's program (R88). -/
def rxFrameProgram (n : Nat) : List MicroOp := [.read (n + 3), .finishRxFrame n]

/-- RX_FRAME (R88): at most `MAX_PAYLOAD` bytes expected. -/
def execRxFrame (s : State) : Out :=
  acceptCommand .rxFrame (some Config.maxPayload) (rxFrameProgram s.lenOperand) s

/-- The role's check of a received identifier byte (R90): a slave wants BOUND_PID in all 8 bits, a master wants its
parity bits right. Both are read in the finish step, as R89's pseudocode has it; R56 says at acceptance, and no run can tell
(DESIGN CHOICE, safe: notes/assumptions/23.md). -/
def State.identifierAccepted (s : State) (b : Byte) : Bool :=
  match s.role with
  | .slave => b == s.boundPid
  | .master => parityOk b

/-- FINISH_RXFRAME(n) (R89). The synch byte `STAGE[0]` is not looked at (R91). -/
def finishRxFrameStep (n : Nat) (s : State) : State :=
  if s.stage.length < n + 3 then s.finish .transportError
  else if !s.identifierAccepted (byteAt s.stage 1) then s.finish .identifierMismatch
  else if !checksumOk (slice s.stage 2 (n + 1)) (byteAt s.stage (n + 2)) then s.finish .checksumMismatch
  else (s.setRxbuf (storeBytes s.rxbuf 0 (slice s.stage 2 (n + 1)))).finish .ok

end Sys2Proof.Machine
end

