-- ==== Sys2Proof/Machine/Transmit.lean ====
section
/-! DEFINITION. The transmit commands TX_FRAME, TX_HEADER and TX_RESPONSE (41_transmit.md R84 to R86), and FINISH_TX (R80). -/

namespace Sys2Proof.Machine

/-- TX_FRAME's program (R84). -/
def txFrameProgram (id : Ident) (p : List Byte) : List MicroOp :=
  transmitProgram (breakOps ++ [.write (frameBytes id p)])

/-- TX_HEADER's program (R85). -/
def txHeaderProgram (id : Ident) : List MicroOp :=
  transmitProgram (breakOps ++ [.write (headerBytes id)])

/-- TX_RESPONSE's program (R86). -/
def txResponseProgram (p : List Byte) : List MicroOp :=
  transmitProgram [.write (responseBytes p)]

/-- TX_FRAME (R84): at most `MAX_PAYLOAD` bytes. -/
def execTxFrame (s : State) : Out :=
  acceptCommand .txFrame (some Config.maxPayload) (txFrameProgram s.identOperand s.payload) s

/-- TX_HEADER (R85): LEN and TXBUF are not read. -/
def execTxHeader (s : State) : Out :=
  acceptCommand .txHeader none (txHeaderProgram s.identOperand) s

/-- TX_RESPONSE (R86): at most `MAX_PAYLOAD` bytes; ID is not read. -/
def execTxResponse (s : State) : Out :=
  acceptCommand .txResponse (some Config.maxPayload) (txResponseProgram s.payload) s

/-- FINISH_TX (R80): TRANSPORT_ERROR if a write or the wake pulse came back incomplete, else OK. -/
def finishTxStep (s : State) : State :=
  if s.fail then s.finish .transportError else s.finish .ok

end Sys2Proof.Machine
end

