-- ==== Sys2Proof/Machine/Wake.lean ====
section
/-! DEFINITION. The bus wake-up command WAKE (44_wakeup_and_reserved.md R97). -/

namespace Sys2Proof.Machine

/-- WAKE's program (R97): no bracket, no break. -/
def wakeProgram : List MicroOp := [.wakep, .finishTx]

/-- WAKE (R97): no operand is read. -/
def execWake (s : State) : Out := acceptCommand .wake none wakeProgram s

end Sys2Proof.Machine
end

