-- ==== Sys2Proof/Machine/Dispatch.lean ====
section
/-! DEFINITION. The meaning of each command: what an idle or busy block does on a host write of it to CMD (41_transmit.md R78). -/

namespace Sys2Proof.Machine

/-- One command's acceptance step (R78). Its micro-ops then run one engine step at a time (R79). -/
def exec (i : Instr) (s : State) : Host.Outcome State Fault Refusal :=
  match i with
  | .txFrame => Sys2Proof.Machine.execTxFrame s
  | .txHeader => Sys2Proof.Machine.execTxHeader s
  | .txResponse => Sys2Proof.Machine.execTxResponse s
  | .rxFrame => Sys2Proof.Machine.execRxFrame s
  | .txRaw => Sys2Proof.Machine.execTxRaw s
  | .rxRaw => Sys2Proof.Machine.execRxRaw s
  | .wake => Sys2Proof.Machine.execWake s

end Sys2Proof.Machine
end

