-- ==== Sys2Proof/Machine/HostBus.lean ====
section
/-! DEFINITION. The host's and the outside's steps: register accesses (20_memory.md R40 to R46), POLL and the receive
expansions' reads (30_encoding.md R69), and reset (70_reset_and_hazards.md R115). -/

namespace Sys2Proof.Machine

/-- Keep the answer of a host read (R69: `RD a -> v`). The block is untouched: no read has a side effect (R45). -/
def State.hostRead (a : Addr) (s : State) : State :=
  s.setEnv { s.env with reads := s.env.reads ++ [(a, s.readReg a)] }

/-- Put inputs before those that are pending. -/
def State.pushInputs (is : List Input) (s : State) : State :=
  s.setEnv { s.env with inputs := is ++ s.env.inputs }

/-- A host write (R41, R45, R46): to CMD it offers a command, which the command's own meaning accepts, refuses or,
while BUSY = 1, ignores; elsewhere it stores, or while BUSY = 1 has no effect. -/
def hostWrite (a : Addr) (v : Byte) (s : State) : Out :=
  if a = 0x02#6 then
    match decodeCommand v with
    | .ok i => exec i s
    | .error _ => acceptIllegal v s
  else if s.busy then .next s
  else .next (s.writeReg a v)

/-- One round of `POLL` (R69): read STATUS, and poll again while bit 7 of the answer is 1. -/
def hostPoll (s : State) : State :=
  if (s.readReg 0x05#6).getLsbD 7 then (s.hostRead 0x05#6).pushInputs [.poll] else s.hostRead 0x05#6

/-- Did the host's last read find STATUS with BUSY = 0 and RESULT = OK? -/
def State.lastReadOk (s : State) : Bool :=
  s.env.reads.getLast? == some (0x05#6, statusByte false .ok)

/-- `RD 0x20+i` for each `i < n` (R69). R69 has no such address for `i` of 32 or more: there the address wraps to 6 bits
(DESIGN CHOICE, unsafe for such a read: notes/assumptions/24.md). -/
def rxReads (n : Nat) : List Input := (List.range n).map fun i => .read (BitVec.ofNat 6 (0x20 + i))

/-- The end of a receive expansion (R69): the reads of RXBUF are made only if the POLL before it found OK. -/
def hostReadRxIfOk (n : Nat) (s : State) : State :=
  if s.lastReadOk then s.pushInputs (rxReads n) else s

/-- What the outside's action does. -/
def inputStep (i : Input) (s : State) : Out :=
  match i with
  | .read a => .next (s.hostRead a)
  | .write a v => hostWrite a v s
  | .poll => .next (hostPoll s)
  | .readRxIfOk n => .next (hostReadRxIfOk n s)
  | .otherWidth n => .refused (.accessWidth n)
  | .reset role sid => .next (s.resetBlock role sid)

end Sys2Proof.Machine
end

