-- ==== Sys2Proof/Machine/Sequencer.lean ====
section
/-! DEFINITION. The sequencer: what each micro-op does (41_transmit.md R80) and the engine's step (R79). -/

namespace Sys2Proof.Machine

/-- `WRITE(bs)` (R80): nothing after a failed write; else one `TxWrite`, and FAIL if it took too few bytes. -/
def writeStep (bs : List Byte) (s : State) : State :=
  if s.fail then s
  else
    match s.drawTaken bs.length with
    | (k, s') => (s'.emit (.txWrite bs k)).setFail (k != bs.length)

/-- `READ(m)` (R80). -/
def readStep (m : Nat) (s : State) : State :=
  match s.drawRx m with
  | (rx, s') => (s'.emit (.rxRead m rx)).setStage rx

/-- `WAKEP` (R80): FAIL is set if the pulse failed. -/
def wakeStep (s : State) : State :=
  match s.drawWake with
  | (ok, s') => (s'.emit (.wakePulse ok)).setFail (s'.fail || !ok)

/-- The effect of one micro-op (R80). -/
def execMicro (u : MicroOp) (s : State) : State :=
  match u with
  | .mode m => (s.emit (.setMode m)).setModeSet m
  | .delay t => s.emit (.delay t)
  | .baud r => (s.emit (.setBaud (baudValue r))).setBaudSet r
  | .write bs => writeStep bs s
  | .read m => readStep m s
  | .wakep => wakeStep s
  | .finishTx => finishTxStep s
  | .finishRxFrame n => finishRxFrameStep n s
  | .finishRxRaw n => finishRxRawStep n s

/-- The micro-op the engine's next step runs (R29). -/
def State.currentOp (s : State) : Option MicroOp := s.prog[s.phase.toNat]?

/-- The engine's step (R79): run `PROG[PHASE]`; PHASE moves on unless the micro-op was a FINISH. R29's summary names no exception
and R79's pseudocode excepts a FINISH; following R79 there is a DESIGN CHOICE, unsafe only for a claim about PHASE after a
FINISH (notes/assumptions/22.md). -/
def engineStep (s : State) : Out :=
  match s.currentOp with
  | none => .fault .noMicroOp
  | some u => .next (if u.isFinish then execMicro u s else (execMicro u s).nextPhase)

end Sys2Proof.Machine
end

