-- ==== Sys2Proof/Machine/Scheduler.lean ====
section
/-! DEFINITION. Who moves: the interleaving of the outside's steps and the engine's (20_memory.md R51, R52), and how a command is placed to come next. -/

namespace Sys2Proof.Machine

/-- The state with other pending inputs. -/
def State.setInputs (is : List Input) (s : State) : State :=
  s.setEnv { s.env with inputs := is }

/-- One indivisible step of one agent (R51, R52). Nothing pending: the engine's step if BUSY = 1, else the block waits
(R115) and nothing changes. Something pending: idle, the outside's next action; busy, whichever agent's turn it is. -/
def blockStep (s : State) : Out :=
  match s.env.inputs with
  | [] => if s.busy then engineStep s else .next s
  | i :: rest =>
    if s.busy then
      match s.drawTurn with
      | (.engine, s') => engineStep s'
      | (.host, s') => inputStep i (s'.setInputs rest)
    else inputStep i (s.setInputs rest)

/-- Place an input so that the very next step is it: first of the pending ones, and on the outside's turn. -/
def State.placeNext (i : Input) (s : State) : State :=
  if s.busy then s.setEnv { s.env with inputs := i :: s.env.inputs, turns := .host :: s.env.turns }
  else s.setInputs (i :: s.env.inputs)

end Sys2Proof.Machine
end

