-- ==== Sys2Proof/Machine/Step.lean ====
section
/-! DEFINITION. The machine's step, and the placing of a command where the next step takes it. -/

namespace Sys2Proof.Machine

/-- One step of the machine. -/
def step : State → Host.Outcome State Fault Refusal := blockStep

/-- The host's write of the table word `w` to CMD comes next (R78; notes/assumptions/6.md). -/
def State.withFetchWord (s : State) (_nbits w : Nat) : State :=
  s.placeNext (.write 0x02#6 (BitVec.ofNat 8 w))

end Sys2Proof.Machine
end

