-- ==== Sys2Proof/Machine/HostCalls.lean ====
section
/-! DEFINITION. The pseudo-instructions of 30_encoding.md R69: each source call as a host program. -/

namespace Sys2Proof.Machine

/-- `WR 0x10+i, b_i` for each payload byte, from index `i` on (R69). R69 has no such address for `i` of 48 or more: there the
address wraps to 6 bits (DESIGN CHOICE, unsafe for such a payload: notes/assumptions/24.md). -/
def payloadWrites (i : Nat) : List Byte → List Input
  | [] => []
  | b :: bs => .write (BitVec.ofNat 6 (0x10 + i)) b :: payloadWrites (i + 1) bs

/-- `WR 0x04, n` (R69). R69 has no such byte for `n` of 256 or more: there it wraps to 8 bits (DESIGN CHOICE, unsafe for such a
payload: notes/assumptions/24.md). -/
def lenWrite (n : Nat) : Input := .write 0x04#6 (BitVec.ofNat 8 n)

/-- `WR 0x02, <opcode>` and `POLL` (R69). -/
def commandAndPoll (i : Instr) : List Input := [.write 0x02#6 (opcode i), .poll]

/-- The expansion of a source call (R69). -/
def expandCall : HostCall → List Input
  | .transmitFrame ident p =>
    .write 0x03#6 ident :: lenWrite p.length :: (payloadWrites 0 p ++ commandAndPoll .txFrame)
  | .transmitHeader ident => .write 0x03#6 ident :: commandAndPoll .txHeader
  | .transmitResponse p => lenWrite p.length :: (payloadWrites 0 p ++ commandAndPoll .txResponse)
  | .receiveFrame n => .write 0x04#6 n :: (commandAndPoll .rxFrame ++ [.readRxIfOk n.toNat])
  | .transmitRaw bs => lenWrite bs.length :: (payloadWrites 0 bs ++ commandAndPoll .txRaw)
  | .receiveRaw n => .write 0x04#6 n :: (commandAndPoll .rxRaw ++ [.readRxIfOk n.toNat])
  | .wakeUp => commandAndPoll .wake

end Sys2Proof.Machine
end

