-- ==== Sys2Proof/Machine/Streams.lean ====
section
/-! DEFINITION. What a run shows: the Transport's byte streams, read off HIST (20_memory.md R47, R48), and a model's observation (10_state.md R35). -/

namespace Sys2Proof.Machine

/-- The bytes the Transport took, each with the rate of the last `SetBaud` before its `TxWrite`; `none` where there
was none, so that the Transport's own rate holds (R47). -/
def txStreamFrom (rate : Option Nat) : List Event → List (Option Nat × Byte)
  | [] => []
  | .setMode _ :: es => txStreamFrom rate es
  | .delay _ :: es => txStreamFrom rate es
  | .setBaud r :: es => txStreamFrom (some r) es
  | .txWrite bs k :: es => (bs.take k).map (fun b => (rate, b)) ++ txStreamFrom rate es
  | .rxRead _ _ :: es => txStreamFrom rate es
  | .wakePulse _ :: es => txStreamFrom rate es

/-- The transmit stream (R47). -/
def txStream (h : List Event) : List (Option Nat × Byte) := txStreamFrom none h

/-- The receive stream (R48): the bytes delivered to `RxRead`, in arrival order, none filtered. -/
def rxStream : List Event → List Byte
  | [] => []
  | .setMode _ :: es => rxStream es
  | .delay _ :: es => rxStream es
  | .setBaud _ :: es => rxStream es
  | .txWrite _ _ :: es => rxStream es
  | .rxRead _ rx :: es => rx ++ rxStream es
  | .wakePulse _ :: es => rxStream es

/-- The host-visible registers, address by address. -/
def State.registers (s : State) : List Byte :=
  (List.range 64).map fun n => s.readReg (BitVec.ofNat 6 n)

/-- A model's observation of a run (R35): HIST and the host-visible registers. -/
def State.observe (s : State) : List Event × List Byte := (s.hist, s.registers)

end Sys2Proof.Machine
end

