-- ==== Sys2Proof/Safety.lean ====
section
/-! DEFINITION. The terms claims are stated in: who moves in a step, the table of programs, and the invariant of every reachable state. -/

namespace Sys2Proof.Machine

/-- `Takes s i u`: in `s` the outside's action `i` moves next, and `u` is `s` with `i` taken off what is pending.
Idle, it is the first pending one; busy, it is that one on the outside's turn, given or drawn (R52). -/
def Takes (s : State) (i : Input) (u : State) : Prop :=
  ∃ rest, s.env.inputs = i :: rest ∧
    ((s.busy = false ∧ u = { s with env := { s.env with inputs := rest } }) ∨
     (s.busy = true ∧ ∃ ts, s.env.turns = .host :: ts ∧
        u = { s with env := { s.env with inputs := rest, turns := ts } }) ∨
     (s.busy = true ∧ s.env.turns = [] ∧ Config.freeTurn s.env.draws = .host ∧
        u = { s with env := { s.env with inputs := rest, draws := s.env.draws + 1 } }))

/-- `EngineMoves s u`: in `s` the engine moves next, and `u` is `s` with its turn taken. The engine moves only while
BUSY = 1 (R79): when nothing else is pending, or on its turn, given or drawn (R52). -/
def EngineMoves (s u : State) : Prop :=
  s.busy = true ∧
    ((s.env.inputs = [] ∧ u = s) ∨
     (s.env.inputs ≠ [] ∧ ∃ ts, s.env.turns = .engine :: ts ∧
        u = { s with env := { s.env with turns := ts } }) ∨
     (s.env.inputs ≠ [] ∧ s.env.turns = [] ∧ Config.freeTurn s.env.draws = .engine ∧
        u = { s with env := { s.env with draws := s.env.draws + 1 } }))

/-- The next action is a reset. -/
def ResetNext (s : State) : Prop := ∃ role sid u, Takes s (.reset role sid) u

/-- The bound on LEN of each command (R64). -/
def boundOf : Instr → Option Nat
  | .txFrame => some 8
  | .txHeader => none
  | .txResponse => some 8
  | .rxFrame => some 8
  | .txRaw => some 16
  | .rxRaw => some 16
  | .wake => none

/-- PROGRAM (R81): a command's program, over the registers of a state. -/
def programOf (i : Instr) (s : State) : List MicroOp :=
  match i with
  | .txFrame => txFrameProgram s.identOperand s.payload
  | .txHeader => txHeaderProgram s.identOperand
  | .txResponse => txResponseProgram s.payload
  | .rxFrame => rxFrameProgram s.lenOperand
  | .txRaw => txRawProgram s.payload
  | .rxRaw => rxRawProgram s.lenOperand
  | .wake => wakeProgram

/-- BAUD_SET after some micro-ops have run (R80). -/
def baudAfter (b : BaudRate) : List MicroOp → BaudRate
  | [] => b
  | .baud r :: us => baudAfter r us
  | .mode _ :: us => baudAfter b us
  | .delay _ :: us => baudAfter b us
  | .write _ :: us => baudAfter b us
  | .read _ :: us => baudAfter b us
  | .wakep :: us => baudAfter b us
  | .finishTx :: us => baudAfter b us
  | .finishRxFrame _ :: us => baudAfter b us
  | .finishRxRaw _ :: us => baudAfter b us

/-- MODE_SET after some micro-ops have run (R80). -/
def modeAfter (m : ModeMark) : List MicroOp → ModeMark
  | [] => m
  | .mode m' :: us => modeAfter (.known m') us
  | .baud _ :: us => modeAfter m us
  | .delay _ :: us => modeAfter m us
  | .write _ :: us => modeAfter m us
  | .read _ :: us => modeAfter m us
  | .wakep :: us => modeAfter m us
  | .finishTx :: us => modeAfter m us
  | .finishRxFrame _ :: us => modeAfter m us
  | .finishRxRaw _ :: us => modeAfter m us

/-- The bytes a micro-op asks the Transport to take, if it is a WRITE (R80). -/
def writeOf : MicroOp → Option (List Byte)
  | .write bs => some bs
  | .mode _ => none
  | .delay _ => none
  | .baud _ => none
  | .read _ => none
  | .wakep => none
  | .finishTx => none
  | .finishRxFrame _ => none
  | .finishRxRaw _ => none

/-- The WRITEs of a program, in order. -/
def programWrites (p : List MicroOp) : List (List Byte) := p.filterMap writeOf

/-- The bytes offered and the number taken, if an event is a TxWrite (R11). -/
def txWriteOf : Event → Option (List Byte × Nat)
  | .txWrite bs k => some (bs, k)
  | .setMode _ => none
  | .delay _ => none
  | .setBaud _ => none
  | .rxRead _ _ => none
  | .wakePulse _ => none

/-- The TxWrites of a history, in order. -/
def txWrites (h : List Event) : List (List Byte × Nat) := h.filterMap txWriteOf

/-- How many bytes a receive finish's STAGE may hold (R89, R95): what its READ asked for. -/
def stageBound : MicroOp → Nat
  | .finishRxFrame n => n + 3
  | .finishRxRaw n => n
  | .mode _ => 16
  | .delay _ => 16
  | .baud _ => 16
  | .write _ => 16
  | .read _ => 16
  | .wakep => 16
  | .finishTx => 16

/-- What the registers hold in every state a run reaches (R21, R22, R24, R26, R32, R66). -/
structure State.RegistersLegal (s : State) : Prop where
  /-- CFG's reserved bits are 0 (R21). -/
  cfg : s.cfg = 0x00#8 ∨ s.cfg = 0x01#8
  /-- A master's BOUND_PID is `0x00`; a slave's is an identifier byte (R22). -/
  bound : (s.role = .master ∧ s.boundPid = 0x00#8) ∨ (s.role = .slave ∧ ∃ sid, s.boundPid = pid sid)
  /-- ID holds 6 bits (R24). -/
  ident : s.id = s.id &&& 0x3F#8
  /-- STATUS is running with RESULT NONE, or idle with one of the seven results (R26, R66). -/
  status : s.status = statusByte true .noResult ∨ ∃ r, s.status = statusByte false r
  /-- STAGE holds at most 16 bytes (R32). -/
  stage : s.stage.length ≤ 16

/-- What holds while a command runs (R29, R30, R56): PROG is still the program of the command in CMD over the present
registers, LEN is within its bound, and PHASE points into it. -/
structure State.Running (s : State) (i : Instr) : Prop where
  cmd : decodeCommand s.cmd = .ok i
  bound : s.lenExceeds (boundOf i) = false
  prog : s.prog = programOf i s
  phase : s.phase.toNat < s.prog.length
  stage : ∀ u, s.currentOp = some u → s.stage.length ≤ stageBound u
  baud : s.baudSet = baudAfter .nominal (s.prog.take s.phase.toNat)
  mode : ∃ m, m ≠ .known .normal ∧ s.modeSet = modeAfter m (s.prog.take s.phase.toNat)

/-- What holds between commands (R33, R34): the nominal rate, and not Normal. -/
structure State.Idle (s : State) : Prop where
  baud : s.baudSet = .nominal
  mode : s.modeSet ≠ .known .normal

/-- The invariant of the machine: legal registers, and a running command's or an idle block's state. -/
structure State.Inv (s : State) : Prop where
  legal : s.RegistersLegal
  running : s.busy = true → ∃ i, s.Running i
  idle : s.busy = false → s.Idle

/-- The state with nothing else pending and the given coming answers of the ports: a command alone on the block. -/
def State.alone (s : State) (tx : List Nat) (rx : List (List Byte)) (wk : List Bool) : State :=
  { s with env := { s.env with inputs := [], txAnswers := tx, rxAnswers := rx, wakeAnswers := wk } }

/-- `k` steps of the machine behind the host's interface. -/
def runSteps (k : Nat) (s : State) : Out := Sys2Proof.core.run k s

/-- Accept a command, then take `k` steps of the machine: a command's whole run, when nothing else is pending. -/
def commandRun (i : Instr) (k : Nat) (s : State) : Out :=
  match exec i s with
  | .next t => runSteps k t
  | .fault r => .fault r
  | .refused r => .refused r

end Sys2Proof.Machine
end

