-- ==== Sys2Proof/Certificates/Slice0/Obligations.lean ====
section
/-! DEFINITION. The statements for the provers, from the numbered rules of spec/. -/

open Sys2Proof Sys2Proof.Machine

/-! ### Reset -/

/-- R38: every piece of the spec's state at reset, under any configuration inputs. -/
def Obligations.ResetState : Prop :=
  (∀ sid : Ident,
    (State.resetWith .master sid).cfg = 0x00#8 ∧ (State.resetWith .slave sid).cfg = 0x01#8 ∧
    (State.resetWith .master sid).boundPid = 0x00#8 ∧ (State.resetWith .slave sid).boundPid = pid sid) ∧
  (∀ (role : Role) (sid : Ident),
    (State.resetWith role sid).cmd = 0x00#8 ∧ (State.resetWith role sid).id = 0x00#8 ∧
    (State.resetWith role sid).len = 0x00#8 ∧ (State.resetWith role sid).status = 0x00#8 ∧
    (∀ (i : Nat) (hi : i < 16), (State.resetWith role sid).txbuf[i] = 0x00#8 ∧
      (State.resetWith role sid).rxbuf[i] = 0x00#8) ∧
    (State.resetWith role sid).phase = 0#4 ∧ (State.resetWith role sid).prog = [] ∧
    (State.resetWith role sid).fail = false ∧ (State.resetWith role sid).stage = [] ∧
    (State.resetWith role sid).baudSet = .nominal ∧ (State.resetWith role sid).modeSet = .unknown ∧
    (State.resetWith role sid).hist = []) ∧
  State.reset = State.resetWith Config.cfgRole Config.cfgSlaveId

/-- R115, R116, R117: a reset sets every piece of the block's state in one step, from any state, also inside a command;
the outside's own fields stay (the model's choice, notes/assumptions/11.md). -/
def Obligations.ResetAtAnyTime : Prop :=
  ∀ (s u : State) (role : Role) (sid : Ident), Takes s (.reset role sid) u →
    step s = .next { State.resetWith role sid with env := u.env }

/-! ### The step -/

/-- R64, R78, R79: a host write of a command byte runs exec of the decoded command, in the state with that write taken off
what is pending; a table word placed by withFetchWord (notes/assumptions/6.md)
is run by the very next step; a write to any address goes through
hostWrite; where the engine moves, the step is the engine's; and an idle block with nothing pending waits, unchanged (the last
is DEDUCED from R115, notes/assumptions/7.md). -/
def Obligations.StepRunsDecodedCommand : Prop :=
  (∀ (s u : State) (v : Byte) (i : Instr), Takes s (.write 0x02#6 v) u → decodeCommand v = .ok i →
    step s = exec i u) ∧
  (∀ (s : State) (w : Nat) (i : Instr), decodeTableWord 8 w = some i →
    step (s.withFetchWord 8 w) = exec i s) ∧
  (∀ (s u : State) (a : Addr) (v : Byte), Takes s (.write a v) u → step s = hostWrite a v u) ∧
  (∀ s u : State, EngineMoves s u → step s = engineStep u) ∧
  (∀ s : State, s.env.inputs = [] → s.busy = false → step s = .next s)

/-! ### The host register space -/

/-- R41, R45: what a host read of each address answers, and that it changes nothing else.
The record of the answer is the model's (notes/assumptions/6.md). -/
def Obligations.HostReadAnswers : Prop :=
  ∀ (s u : State) (a : Addr), Takes s (.read a) u →
    ∃ v : Byte, step s = .next { u with env := { u.env with reads := u.env.reads ++ [(a, v)] } } ∧
      (a = 0x00#6 → v = s.cfg &&& 0x01#8) ∧
      (a = 0x01#6 → v = s.boundPid) ∧
      (a = 0x02#6 → v = s.cmd) ∧
      (a = 0x03#6 → v = s.id &&& 0x3F#8) ∧
      (a = 0x04#6 → v = s.len) ∧
      (a = 0x05#6 → v = s.status &&& 0x8F#8) ∧
      (0x06 ≤ a.toNat ∧ a.toNat ≤ 0x0F → v = 0x00#8) ∧
      (∀ (i : Nat) (hi : i < 16), a.toNat = 0x10 + i → v = s.txbuf[i]) ∧
      (∀ (i : Nat) (hi : i < 16), a.toNat = 0x20 + i → v = s.rxbuf[i]) ∧
      (0x30 ≤ a.toNat → v = 0x00#8)

/-- R42: a read of a reserved address answers 0x00, a write there has no effect, and neither faults. -/
def Obligations.ReservedAddresses : Prop :=
  ∀ (s : State) (a : Addr), (0x06 ≤ a.toNat ∧ a.toNat ≤ 0x0F) ∨ 0x30 ≤ a.toNat →
    inputStep (.read a) s = .next { s with env := { s.env with reads := s.env.reads ++ [(a, 0x00#8)] } } ∧
    (∀ v : Byte, hostWrite a v s = .next s)

/-- R43: read-only registers take no write; ID discards bits 7:6; the reserved bits of CFG and STATUS read 0. -/
def Obligations.ReadOnlyRegisters : Prop :=
  (∀ (s : State) (a : Addr) (v : Byte),
    a = 0x00#6 ∨ a = 0x01#6 ∨ a = 0x05#6 ∨ (0x20 ≤ a.toNat ∧ a.toNat ≤ 0x2F) → hostWrite a v s = .next s) ∧
  (∀ (s : State) (v : Byte), s.busy = false → hostWrite 0x03#6 v s = .next { s with id := v &&& 0x3F#8 }) ∧
  (∀ s : State, s.readReg 0x00#6 &&& 0xFE#8 = 0x00#8 ∧ s.readReg 0x05#6 &&& 0x70#8 = 0x00#8)

/-- R24, R25, R27, R45: an idle write of ID, LEN or a TXBUF entry stores the value there and changes no other address. -/
def Obligations.IdleWritesStore : Prop :=
  ∀ (s : State) (v : Byte), s.busy = false →
    (∃ t, hostWrite 0x03#6 v s = .next t ∧ t = { s with id := v &&& 0x3F#8 } ∧
      t.readReg 0x03#6 = v &&& 0x3F#8 ∧ ∀ a : Addr, a ≠ 0x03#6 → t.readReg a = s.readReg a) ∧
    (∃ t, hostWrite 0x04#6 v s = .next t ∧ t = { s with len := v } ∧
      t.readReg 0x04#6 = v ∧ ∀ a : Addr, a ≠ 0x04#6 → t.readReg a = s.readReg a) ∧
    (∀ (i : Nat) (hi : i < 16) (w : Addr), w.toNat = 0x10 + i →
      ∃ t, hostWrite w v s = .next t ∧ t = { s with txbuf := s.txbuf.set i v } ∧
        t.readReg w = v ∧ ∀ a : Addr, a ≠ w → t.readReg a = s.readReg a)

/-- R46: while BUSY = 1 a host write to any address, a command's included, has no effect, and reads are performed normally. -/
def Obligations.BusyIgnoresWrites : Prop :=
  ∀ s : State, s.busy = true →
    (∀ (a : Addr) (v : Byte), hostWrite a v s = .next s) ∧
    (∀ i : Instr, exec i s = .next s) ∧
    (∀ a : Addr, inputStep (.read a) s =
      .next { s with env := { s.env with reads := s.env.reads ++ [(a, s.readReg a)] } })

/-- R44: an access of another width is refused. -/
def Obligations.OtherWidthRefused : Prop :=
  ∀ (s u : State) (n : Nat), Takes s (.otherWidth n) u → step s = .refused (.accessWidth n)

/-! ### Encodings -/

/-- R64, R67, R68: the seven command bytes of the table; every command's one byte decodes to it, whatever follows; only that
byte does; and every other byte is rejected by name. -/
def Obligations.CommandBytes : Prop :=
  decodeCommand 0x01#8 = .ok .txFrame ∧ decodeCommand 0x02#8 = .ok .txHeader ∧
  decodeCommand 0x03#8 = .ok .txResponse ∧ decodeCommand 0x04#8 = .ok .rxFrame ∧
  decodeCommand 0x05#8 = .ok .txRaw ∧ decodeCommand 0x06#8 = .ok .rxRaw ∧
  decodeCommand 0x07#8 = .ok .wake ∧
  (∀ (i : Instr) (rest : List Byte), (encode i).length = 1 ∧ decode (encode i ++ rest) = .ok (i, rest)) ∧
  (∀ (v : Byte) (i : Instr), decodeCommand v = .ok i → opcode i = v) ∧
  (∀ v : Byte, v = 0x00#8 ∨ 0x08 ≤ v.toNat → decodeCommand v = .error (.reservedCommand v))

/-- R69: the transaction words of RD and WR decode to what they encode, and the words 0x8201 and 0x0500 are the
examples' accesses. That no other word decodes is the model's choice (notes/assumptions/20.md). -/
def Obligations.TransactionWordRoundTrip : Prop :=
  (∀ a : Addr, (encodeTransaction (.read a)).bind decodeTransaction = some (.read a)) ∧
  (∀ (a : Addr) (v : Byte), (encodeTransaction (.write a v)).bind decodeTransaction = some (.write a v)) ∧
  (∀ (w : BitVec 16) (i : Input), decodeTransaction w = some i → encodeTransaction i = some w) ∧
  encodeTransaction (.write 0x02#6 0x01#8) = some 0x8201#16 ∧ encodeTransaction (.read 0x05#6) = some 0x0500#16

/-- R69: the payload writes of an expansion put byte i at address 0x10 + i, in index order, between the LEN write and the
command; the receive expansions read entry i at 0x20 + i. That they look at the last answer is the model's choice
(notes/assumptions/19.md), and so is the wrap of addresses and lengths that R69 cannot express, for payloads of more than 48
and 255 bytes and for reads of more than 32 (notes/assumptions/24.md). POLL reads STATUS once a step, and is next again while bit 7 of the answer is 1 (that it is one
read a step is the model's choice, notes/assumptions/19.md). -/
def Obligations.CallExpansions : Prop :=
  (∀ (ident : Byte) (p : List Byte),
    expandCall (.transmitFrame ident p) =
      [.write 0x03#6 ident, .write 0x04#6 (BitVec.ofNat 8 p.length)] ++
        (List.range p.length).map (fun i => .write (BitVec.ofNat 6 (0x10 + i)) (p.getD i 0x00#8)) ++
        [.write 0x02#6 0x01#8, .poll]) ∧
  (∀ p : List Byte,
    expandCall (.transmitResponse p) =
      [.write 0x04#6 (BitVec.ofNat 8 p.length)] ++
        (List.range p.length).map (fun i => .write (BitVec.ofNat 6 (0x10 + i)) (p.getD i 0x00#8)) ++
        [.write 0x02#6 0x03#8, .poll]) ∧
  (∀ p : List Byte,
    expandCall (.transmitRaw p) =
      [.write 0x04#6 (BitVec.ofNat 8 p.length)] ++
        (List.range p.length).map (fun i => .write (BitVec.ofNat 6 (0x10 + i)) (p.getD i 0x00#8)) ++
        [.write 0x02#6 0x05#8, .poll]) ∧
  (∀ ident : Byte, expandCall (.transmitHeader ident) = [.write 0x03#6 ident, .write 0x02#6 0x02#8, .poll]) ∧
  (∀ n : Byte,
    expandCall (.receiveFrame n) = [.write 0x04#6 n, .write 0x02#6 0x04#8, .poll, .readRxIfOk n.toNat] ∧
    expandCall (.receiveRaw n) = [.write 0x04#6 n, .write 0x02#6 0x06#8, .poll, .readRxIfOk n.toNat]) ∧
  expandCall .wakeUp = [.write 0x02#6 0x07#8, .poll] ∧
  (∀ (s : State) (n : Nat), s.env.reads.getLast? = some (0x05#6, 0x01#8) →
    hostReadRxIfOk n s = { s with env := { s.env with
      inputs := (List.range n).map (fun i => .read (BitVec.ofNat 6 (0x20 + i))) ++ s.env.inputs } }) ∧
  (∀ (s : State) (n : Nat), s.env.reads.getLast? ≠ some (0x05#6, 0x01#8) → hostReadRxIfOk n s = s) ∧
  (∀ s u : State, Takes s .poll u → (s.readReg 0x05#6).getLsbD 7 = true →
    step s = .next { u with env := { u.env with
      reads := u.env.reads ++ [(0x05#6, s.readReg 0x05#6)], inputs := .poll :: u.env.inputs } }) ∧
  (∀ s u : State, Takes s .poll u → (s.readReg 0x05#6).getLsbD 7 = false →
    step s = .next { u with env := { u.env with reads := u.env.reads ++ [(0x05#6, s.readReg 0x05#6)] } })

/-! ### Frame functions -/

/-- R70: the parity bits, that the result's other bits are 0, and the rule's corner cases and example. -/
def Obligations.ParityBits : Prop :=
  (∀ id : Ident,
    (parity id).getLsbD 6 = (id.getLsbD 0 ^^ id.getLsbD 1 ^^ id.getLsbD 2 ^^ id.getLsbD 4) ∧
    (parity id).getLsbD 7 = !(id.getLsbD 1 ^^ id.getLsbD 3 ^^ id.getLsbD 4 ^^ id.getLsbD 5) ∧
    parity id &&& 0x3F#8 = 0x00#8) ∧
  parity 0x00#6 = 0x80#8 ∧ parity 0x3F#6 = 0x80#8 ∧ parity 0x23#6 = 0x80#8

/-- R71: the identifier byte, its one-to-one law, the identifiers it leaves as they are, and the example. -/
def Obligations.IdentifierByte : Prop :=
  (∀ id : Ident, pid id = (id.setWidth 8 ||| parity id) ∧ (pid id).setWidth 6 = id) ∧
  (∀ id id' : Ident, pid id = pid id' → id = id') ∧
  (∀ id : Ident, (pid id = id.setWidth 8 ↔ parity id = 0x00#8) ∧
    (parity id = 0x00#8 ↔
      id ∈ [0x03#6, 0x06#6, 0x08#6, 0x0D#6, 0x11#6, 0x14#6, 0x1A#6, 0x1F#6,
            0x20#6, 0x25#6, 0x2B#6, 0x2E#6, 0x32#6, 0x37#6, 0x39#6, 0x3C#6])) ∧
  pid 0x23#6 = 0xA3#8

/-- R72: PARITY_OK accepts exactly the identifier bytes of the 64 identifiers. -/
def Obligations.ParityOkExactlyIdentifierBytes : Prop :=
  (∀ b : Byte, parityOk b = true ↔ ∃ id : Ident, b = pid id) ∧
  ((List.range 256).filter (fun n => parityOk (BitVec.ofNat 8 n))).length = 64 ∧
  parityOk 0x23#8 = false ∧ parityOk 0x3C#8 = true ∧ parityOk 0xA3#8 = true

/-- R77: the laws of the identifier byte, with the reference table of all 64 values. -/
def Obligations.IdentifierByteLaws : Prop :=
  (∀ id : Ident, (pid id).setWidth 6 = id ∧ parityOk (pid id) = true) ∧
  (∀ (id : Ident) (k : Fin 8), parityOk (pid id ^^^ (0x01#8 <<< k.val)) = false) ∧
  (List.range 64).map (fun n => (pid (BitVec.ofNat 6 n)).toNat) =
    [0x80, 0xC1, 0x42, 0x03, 0xC4, 0x85, 0x06, 0x47, 0x08, 0x49, 0xCA, 0x8B, 0x4C, 0x0D, 0x8E, 0xCF] ++
    [0x50, 0x11, 0x92, 0xD3, 0x14, 0x55, 0xD6, 0x97, 0xD8, 0x99, 0x1A, 0x5B, 0x9C, 0xDD, 0x5E, 0x1F] ++
    [0x20, 0x61, 0xE2, 0xA3, 0x64, 0x25, 0xA6, 0xE7, 0xA8, 0xE9, 0x6A, 0x2B, 0xEC, 0xAD, 0x2E, 0x6F] ++
    [0xF0, 0xB1, 0x32, 0x73, 0xB4, 0xF5, 0x76, 0x37, 0x78, 0x39, 0xBA, 0xFB, 0x3C, 0x7D, 0xFE, 0xBF]

/-- R73: the checksum, that it is the complement of the sum's byte, and the rule's corner cases and example. -/
def Obligations.ChecksumGenerator : Prop :=
  (∀ p : List Byte,
    (checksum p).toNat = 255 - (p.map BitVec.toNat).sum % 256 ∧
    checksum p = ~~~(BitVec.ofNat 8 (p.map BitVec.toNat).sum) ∧
    ((p.map BitVec.toNat).sum % 256 = 0 → checksum p = 0xFF#8)) ∧
  checksum [] = 0xFF#8 ∧ checksum [0xFF#8, 0x01#8] = 0xFF#8 ∧ checksum [0x80#8, 0x80#8] = 0xFF#8 ∧
  checksum [0xFF#8] = 0x00#8 ∧ checksum (List.replicate 8 0xFF#8) = 0x07#8 ∧
  checksum [31#8, 255#8, 0#8, 0#8, 3#8] = 222#8

/-- R74: the verifier is the construction formula; its equivalent form; its corner cases and example. -/
def Obligations.ChecksumVerifier : Prop :=
  (∀ (p : List Byte) (c : Byte),
    (checksumOk p c = true ↔ c = checksum p) ∧
    (checksumOk p c = true ↔ ((p.map BitVec.toNat).sum + c.toNat) % 256 = 255)) ∧
  checksumOk [] 0xFF#8 = true ∧ checksumOk [] 0xFE#8 = false ∧
  checksumOk [31#8, 255#8, 0#8, 0#8, 3#8] 222#8 = true ∧ checksumOk [31#8, 255#8, 0#8, 0#8, 3#8] 221#8 = false

/-- R76: exactly one checksum byte passes, a flipped bit of it or of one data byte is seen, two changes can cancel, and the
order of the payload does not matter. -/
def Obligations.ChecksumLaws : Prop :=
  (∀ p : List Byte, ∃ c : Byte, checksumOk p c = true ∧ ∀ d : Byte, checksumOk p d = true → d = c) ∧
  (∀ (p : List Byte) (c : Byte) (k : Nat), k < 8 → checksumOk p c = true →
    checksumOk p (c ^^^ (0x01#8 <<< k)) = false) ∧
  (∀ (p q : List Byte) (b c : Byte) (k : Nat), k < 8 → checksumOk (p ++ b :: q) c = true →
    checksumOk (p ++ (b ^^^ (0x01#8 <<< k)) :: q) c = false) ∧
  checksum [0x01#8, 0x00#8] = 0xFE#8 ∧ checksum [0x00#8, 0x01#8] = 0xFE#8 ∧
  (∀ p q : List Byte, p.Perm q → checksum p = checksum q)

/-! ### Acceptance -/

/-- R78, R81 to R84: TX_FRAME is accepted and its program is this. -/
def Obligations.AcceptTxFrame : Prop :=
  ∀ s : State, s.busy = false → s.len.toNat ≤ 8 →
    exec .txFrame s = .next { s with
      cmd := 0x01#8, phase := 0#4, fail := false, stage := [], status := 0x80#8,
      prog := [.mode .normal, .delay Config.tModeMs, .baud .breakRate, .write [0x00#8], .baud .nominal,
        .write ([0x55#8, pid (s.id.setWidth 6)] ++ s.txbuf.toList.take s.len.toNat ++
          [checksum (s.txbuf.toList.take s.len.toNat)]),
        .mode .sleep, .delay Config.tModeMs, .finishTx] }

/-- R78, R81 to R83, R85: TX_HEADER is accepted whatever LEN holds, and its program is this. -/
def Obligations.AcceptTxHeader : Prop :=
  ∀ s : State, s.busy = false →
    exec .txHeader s = .next { s with
      cmd := 0x02#8, phase := 0#4, fail := false, stage := [], status := 0x80#8,
      prog := [.mode .normal, .delay Config.tModeMs, .baud .breakRate, .write [0x00#8], .baud .nominal,
        .write [0x55#8, pid (s.id.setWidth 6)],
        .mode .sleep, .delay Config.tModeMs, .finishTx] }

/-- R78, R81, R83, R86: TX_RESPONSE is accepted and its program is this. -/
def Obligations.AcceptTxResponse : Prop :=
  ∀ s : State, s.busy = false → s.len.toNat ≤ 8 →
    exec .txResponse s = .next { s with
      cmd := 0x03#8, phase := 0#4, fail := false, stage := [], status := 0x80#8,
      prog := [.mode .normal, .delay Config.tModeMs,
        .write (s.txbuf.toList.take s.len.toNat ++ [checksum (s.txbuf.toList.take s.len.toNat)]),
        .mode .sleep, .delay Config.tModeMs, .finishTx] }

/-- R78, R81, R88: RX_FRAME is accepted and its program is this. -/
def Obligations.AcceptRxFrame : Prop :=
  ∀ s : State, s.busy = false → s.len.toNat ≤ 8 →
    exec .rxFrame s = .next { s with
      cmd := 0x04#8, phase := 0#4, fail := false, stage := [], status := 0x80#8,
      prog := [.read (s.len.toNat + 3), .finishRxFrame s.len.toNat] }

/-- R78, R81 to R83, R94: TX_RAW is accepted and its program is this. -/
def Obligations.AcceptTxRaw : Prop :=
  ∀ s : State, s.busy = false → s.len.toNat ≤ 16 →
    exec .txRaw s = .next { s with
      cmd := 0x05#8, phase := 0#4, fail := false, stage := [], status := 0x80#8,
      prog := [.mode .normal, .delay Config.tModeMs, .baud .breakRate, .write [0x00#8], .baud .nominal,
        .write (s.txbuf.toList.take s.len.toNat),
        .mode .sleep, .delay Config.tModeMs, .finishTx] }

/-- R78, R81, R95: RX_RAW is accepted and its program is this. -/
def Obligations.AcceptRxRaw : Prop :=
  ∀ s : State, s.busy = false → s.len.toNat ≤ 16 →
    exec .rxRaw s = .next { s with
      cmd := 0x06#8, phase := 0#4, fail := false, stage := [], status := 0x80#8,
      prog := [.read s.len.toNat, .finishRxRaw s.len.toNat] }

/-- R78, R81, R97: WAKE is accepted whatever LEN holds, and its program is this. -/
def Obligations.AcceptWake : Prop :=
  ∀ s : State, s.busy = false →
    exec .wake s = .next { s with
      cmd := 0x07#8, phase := 0#4, fail := false, stage := [], status := 0x80#8,
      prog := [.wakep, .finishTx] }

/-- R78, R100: a LEN above a command's bound is refused at acceptance; only CMD and STATUS change. -/
def Obligations.PayloadTooLarge : Prop :=
  (∀ (s : State) (i : Instr), s.busy = false → i = .txFrame ∨ i = .txResponse ∨ i = .rxFrame → 8 < s.len.toNat →
    exec i s = .next { s with cmd := opcode i, status := 0x05#8 }) ∧
  (∀ (s : State) (i : Instr), s.busy = false → i = .txRaw ∨ i = .rxRaw → 16 < s.len.toNat →
    exec i s = .next { s with cmd := opcode i, status := 0x05#8 })

/-- R98, R101: a reserved command value is stored and reported, whatever LEN holds; nothing else changes. -/
def Obligations.ReservedCommandWrite : Prop :=
  ∀ (s : State) (v : Byte), s.busy = false → v = 0x00#8 ∨ 0x08 ≤ v.toNat →
    hostWrite 0x02#6 v s = .next { s with cmd := v, status := 0x06#8 }

/-- The frame of every command's acceptance (R56, R78): it answers a next state in every state, which differs only in
CMD, STATUS, PROG, PHASE, FAIL and STAGE; every other register and every other host address is as before. -/
def Obligations.AcceptanceFrame : Prop :=
  ∀ (i : Instr) (s : State), ∃ t, exec i s = .next t ∧
    t = { s with cmd := t.cmd, status := t.status, prog := t.prog, phase := t.phase, fail := t.fail, stage := t.stage } ∧
    (∀ a : Addr, a ≠ 0x02#6 → a ≠ 0x05#6 → t.readReg a = s.readReg a)

/-- R29, R81: the program of an accepted command is well formed and has the table's number of micro-ops. -/
def Obligations.AcceptedProgramsWellFormed : Prop :=
  ∀ (i : Instr) (s t : State), s.busy = false → exec i s = .next t → t.busy = true →
    programWf t.prog = true ∧
    (i = .txFrame ∨ i = .txHeader ∨ i = .txRaw → t.prog.length = 9) ∧
    (i = .txResponse → t.prog.length = 6) ∧
    (i = .rxFrame ∨ i = .rxRaw ∨ i = .wake → t.prog.length = 2)

/-! ### The sequencer and its micro-ops -/

/-- R79: the engine runs `PROG[PHASE]`, moves PHASE on unless it was a FINISH, and a FINISH, and nothing else, clears BUSY.
That PHASE stays on a FINISH is R79's pseudocode, chosen over R29's summary (notes/assumptions/22.md). -/
def Obligations.EngineStepRunsMicroOp : Prop :=
  ∀ (s : State) (u : MicroOp), s.busy = true → s.prog[s.phase.toNat]? = some u →
    ∃ t, engineStep s = .next t ∧
      (u.isFinish = false → t = { execMicro u s with phase := s.phase + 1#4 } ∧ t.busy = true) ∧
      (u.isFinish = true → t = execMicro u s ∧ t.phase = s.phase ∧ t.busy = false)

/-- R80: MODE, DELAY, BAUD and FINISH_TX. -/
def Obligations.PlainMicroOps : Prop :=
  ∀ s : State,
    (∀ m : Mode, execMicro (.mode m) s = { s with hist := s.hist ++ [.setMode m], modeSet := .known m }) ∧
    (∀ n : Nat, execMicro (.delay n) s = { s with hist := s.hist ++ [.delay n] }) ∧
    execMicro (.baud .nominal) s =
      { s with hist := s.hist ++ [.setBaud Config.nominalBaud], baudSet := .nominal } ∧
    execMicro (.baud .breakRate) s =
      { s with hist := s.hist ++ [.setBaud (Config.nominalBaud / 2)], baudSet := .breakRate } ∧
    (s.fail = true → execMicro .finishTx s = { s with status := 0x02#8 }) ∧
    (s.fail = false → execMicro .finishTx s = { s with status := 0x01#8 })

/-- R80, R11: WRITE, READ and WAKEP, each with an answer the port may give; and every answer it may give can come (the lists of
coming answers are the model's, notes/assumptions/4.md). -/
def Obligations.AskingMicroOps : Prop :=
  (∀ (s : State) (bs : List Byte), s.fail = true → execMicro (.write bs) s = s) ∧
  (∀ (s : State) (bs : List Byte), s.fail = false → ∃ k e, k ≤ bs.length ∧
    execMicro (.write bs) s =
      { s with hist := s.hist ++ [.txWrite bs k], fail := decide (k ≠ bs.length), env := e } ∧
    (∀ k' rest, s.env.txAnswers = k' :: rest → k' ≤ bs.length → k = k' ∧ e = { s.env with txAnswers := rest })) ∧
  (∀ (s : State) (m : Nat), ∃ rx e, rx.length ≤ m ∧
    execMicro (.read m) s = { s with hist := s.hist ++ [.rxRead m rx], stage := rx, env := e } ∧
    (∀ rx' rest, s.env.rxAnswers = rx' :: rest → rx'.length ≤ m → rx = rx' ∧ e = { s.env with rxAnswers := rest })) ∧
  (∀ s : State, ∃ ok e,
    execMicro .wakep s = { s with hist := s.hist ++ [.wakePulse ok], fail := s.fail || !ok, env := e } ∧
    (∀ ok' rest, s.env.wakeAnswers = ok' :: rest → ok = ok' ∧ e = { s.env with wakeAnswers := rest }))

/-- R89, R92: the validation and commit of a received frame, in the order of the rule. -/
def Obligations.FinishRxFrame : Prop :=
  ∀ (s : State) (n : Nat),
    (s.stage.length < n + 3 → execMicro (.finishRxFrame n) s = { s with status := 0x02#8 }) ∧
    (n + 3 ≤ s.stage.length → s.role = .slave → s.stage.getD 1 0x00#8 ≠ s.boundPid →
      execMicro (.finishRxFrame n) s = { s with status := 0x04#8 }) ∧
    (n + 3 ≤ s.stage.length → s.role = .master → parityOk (s.stage.getD 1 0x00#8) = false →
      execMicro (.finishRxFrame n) s = { s with status := 0x04#8 }) ∧
    (n + 3 ≤ s.stage.length →
      (s.role = .slave ∧ s.stage.getD 1 0x00#8 = s.boundPid) ∨
        (s.role = .master ∧ parityOk (s.stage.getD 1 0x00#8) = true) →
      (checksumOk ((s.stage.drop 2).take n) (s.stage.getD (n + 2) 0x00#8) = false →
        execMicro (.finishRxFrame n) s = { s with status := 0x03#8 }) ∧
      (checksumOk ((s.stage.drop 2).take n) (s.stage.getD (n + 2) 0x00#8) = true →
        ∃ buf : Vector Byte 16, execMicro (.finishRxFrame n) s = { s with rxbuf := buf, status := 0x01#8 } ∧
          ∀ (i : Nat) (hi : i < 16), buf[i] = if i < n then s.stage.getD (i + 2) 0x00#8 else s.rxbuf[i]))

/-- R96: the finish of a raw read. -/
def Obligations.FinishRxRaw : Prop :=
  ∀ (s : State) (n : Nat),
    (s.stage.length < n → execMicro (.finishRxRaw n) s = { s with status := 0x02#8 }) ∧
    (n ≤ s.stage.length →
      ∃ buf : Vector Byte 16, execMicro (.finishRxRaw n) s = { s with rxbuf := buf, status := 0x01#8 } ∧
        ∀ (i : Nat) (hi : i < 16), buf[i] = if i < n then s.stage.getD i 0x00#8 else s.rxbuf[i])

/-- R91: the received synch byte changes neither the result nor what is stored, and a complete frame whose other checks pass is
accepted whatever its first byte is. -/
def Obligations.SynchByteNotChecked : Prop :=
  (∀ (s : State) (n : Nat) (b c : Byte) (rest : List Byte),
    (execMicro (.finishRxFrame n) { s with stage := b :: rest }).status =
      (execMicro (.finishRxFrame n) { s with stage := c :: rest }).status ∧
    (execMicro (.finishRxFrame n) { s with stage := b :: rest }).rxbuf =
      (execMicro (.finishRxFrame n) { s with stage := c :: rest }).rxbuf) ∧
  (∀ (s : State) (n : Nat) (b : Byte) (rest : List Byte), n + 3 ≤ (b :: rest).length →
    (s.role = .slave ∧ (b :: rest).getD 1 0x00#8 = s.boundPid) ∨
      (s.role = .master ∧ parityOk ((b :: rest).getD 1 0x00#8) = true) →
    checksumOk (((b :: rest).drop 2).take n) ((b :: rest).getD (n + 2) 0x00#8) = true →
    (execMicro (.finishRxFrame n) { s with stage := b :: rest }).status = 0x01#8)

/-- R90: a complete frame is reported IDENTIFIER_MISMATCH exactly when the identifier byte fails the role's check: for a
slave, all 8 bits of BOUND_PID; for a master, the parity bits, which 64 of the 256 bytes pass. -/
def Obligations.IdentifierCheckByRole : Prop :=
  ∀ (s : State) (n : Nat), n + 3 ≤ s.stage.length →
    (s.role = .slave →
      ((execMicro (.finishRxFrame n) s).status = 0x04#8 ↔ s.stage.getD 1 0x00#8 ≠ s.boundPid)) ∧
    (s.role = .master →
      ((execMicro (.finishRxFrame n) s).status = 0x04#8 ↔
        s.stage.getD 1 0x00#8 &&& 0xC0#8 ≠ parity ((s.stage.getD 1 0x00#8).setWidth 6))) ∧
    ((List.range 256).filter (fun m => !parityOk (BitVec.ofNat 8 m))).length = 192

/-- R102: a finish with any result but OK changes STATUS alone, so every other host address reads as before.
That PHASE too stays is R79's pseudocode, chosen over R29's summary (notes/assumptions/22.md). -/
def Obligations.ErrorsChangeStatusAlone : Prop :=
  ∀ (s t : State) (u : MicroOp), s.busy = true → s.currentOp = some u → u.isFinish = true →
    engineStep s = .next t → t.status ≠ 0x01#8 →
    t = { s with status := t.status } ∧ ∀ a : Addr, a ≠ 0x05#6 → t.readReg a = s.readReg a

/-! ### Whole-machine rules -/

/-- R28, R92, R96: RXBUF changes only in a reset or in the receive finish of a running command that ends with OK. -/
def Obligations.RxbufOnlyOnSuccess : Prop :=
  ∀ s t : State, step s = .next t → ¬ResetNext s → t.rxbuf ≠ s.rxbuf →
    s.busy = true ∧ (∃ n, s.currentOp = some (.finishRxFrame n) ∨ s.currentOp = some (.finishRxRaw n)) ∧
      t.status = 0x01#8

/-- R21, R22, R117: the role and the bound identifier byte change only in a reset. -/
def Obligations.RoleFixedBetweenResets : Prop :=
  ∀ s t : State, step s = .next t → ¬ResetNext s → t.cfg = s.cfg ∧ t.boundPid = s.boundPid

/-- R35, R51: but for a reset, HIST is only appended to, by at most one event a step, and only by the engine's. -/
def Obligations.HistoryOnlyGrows : Prop :=
  ∀ s t : State, step s = .next t → ¬ResetNext s →
    t.hist = s.hist ∨ (s.busy = true ∧ ∃ e, t.hist = s.hist ++ [e])

/-- R23, R24, R25, R27, R56: a running command's operands and program stay as they are: while BUSY = 1 only a reset changes
CMD, ID, LEN, TXBUF or PROG, whoever moves. -/
def Obligations.OperandsStableWhileBusy : Prop :=
  ∀ s t : State, s.busy = true → step s = .next t → ¬ResetNext s →
    t.cmd = s.cmd ∧ t.id = s.id ∧ t.len = s.len ∧ t.txbuf = s.txbuf ∧ t.prog = s.prog

/-- R46, R52: while BUSY = 1 what the outside does, a reset apart, leaves the whole block as it was. -/
def Obligations.OutsideCannotDisturbCommand : Prop :=
  ∀ (s u t : State) (i : Input), s.busy = true → Takes s i u → (∀ role sid, i ≠ .reset role sid) →
    step s = .next t → t = { s with env := t.env }

/-- R26, R79: a step ends a command only by its FINISH, and starts one only by an idle write of CMD; a reset apart. -/
def Obligations.BusyChangesOnlyAtAcceptanceAndFinish : Prop :=
  ∀ s t : State, step s = .next t → ¬ResetNext s →
    (s.busy = true → t.busy = false → ∃ u, s.currentOp = some u ∧ u.isFinish = true) ∧
    (s.busy = false → t.busy = true →
      ∃ v i u, Takes s (.write 0x02#6 v) u ∧ decodeCommand v = .ok i ∧ t.prog = programOf i s ∧ t.phase = 0#4)

/-- Every step keeps the invariant (R21 to R34, R56, R66): legal registers; while a command runs, PROG is the program of the
command in CMD over the present registers and PHASE points into it; BAUD_SET and MODE_SET are what the micro-ops run so far
left; and between commands BAUD_SET is NOMINAL and MODE_SET is not Normal. -/
def Obligations.EveryStepKeepsInv : Prop :=
  ∀ s t : State, s.Inv → step s = .next t → t.Inv

/-- The invariant holds at reset, under any configuration inputs. -/
def Obligations.ResetHasInv : Prop :=
  (∀ (role : Role) (sid : Ident), (State.resetWith role sid).Inv) ∧ State.reset.Inv

/-- R33: BAUD_SET holds BREAK_BAUD only between the two BAUD micro-ops of a running command's break. -/
def Obligations.BreakBaudOnlyInBreak : Prop :=
  ∀ s : State, s.Inv → s.baudSet = .breakRate →
    s.busy = true ∧ s.prog[2]? = some (.baud .breakRate) ∧ s.prog[4]? = some (.baud .nominal) ∧
      (s.phase = 3#4 ∨ s.phase = 4#4)

/-- R34: MODE_SET is Normal only inside a transmit bracket, of which the first micro-op has run and the MODE(Sleep) has not. -/
def Obligations.NormalModeOnlyInBracket : Prop :=
  ∀ s : State, s.Inv → s.modeSet = .known .normal →
    s.busy = true ∧ s.prog[0]? = some (.mode .normal) ∧
      ∃ k, s.prog[k]? = some (.mode .sleep) ∧ 1 ≤ s.phase.toNat ∧ s.phase.toNat ≤ k

/-- R42, R44, R79: under the invariant no step faults, and only an access of another width is refused. -/
def Obligations.NoStepIsStuck : Prop :=
  ∀ s : State, s.Inv →
    (∃ t, step s = .next t) ∨ (∃ n u, Takes s (.otherWidth n) u ∧ step s = .refused (.accessWidth n))

/-- R79, R100, R105: a running command left alone ends, within nine steps, with exactly one of the results but NONE.
It rests on every port answering in its step (notes/assumptions/16.md). -/
def Obligations.RunningCommandEnds : Prop :=
  ∀ s : State, s.Inv → s.busy = true → s.env.inputs = [] →
    ∃ k t r, 1 ≤ k ∧ k ≤ 9 ∧ runSteps k s = .next t ∧ t.cmd = s.cmd ∧
      r ≠ Result.noResult ∧ t.status = statusByte false r

/-! ### Whole runs of a command -/

/-- R84: TX_FRAME's run, when the break is taken whole and the frame write answers `k`, and when the break fails.
The listed answers are the model's form (notes/assumptions/4.md). -/
def Obligations.TxFrameRun : Prop :=
  ∀ (s : State) (p f : List Byte) (rest : List Nat), s.busy = false → s.len.toNat ≤ 8 →
    p = s.txbuf.toList.take s.len.toNat → f = [0x55#8, pid (s.id.setWidth 6)] ++ p ++ [checksum p] →
    f.length = s.len.toNat + 3 ∧
    (∀ k, k ≤ f.length → ∃ t, commandRun .txFrame 9 (s.alone (1 :: k :: rest) s.env.rxAnswers s.env.wakeAnswers) = .next t ∧
      t.hist = s.hist ++ [.setMode .normal, .delay Config.tModeMs, .setBaud (Config.nominalBaud / 2),
        .txWrite [0x00#8] 1, .setBaud Config.nominalBaud, .txWrite f k,
        .setMode .sleep, .delay Config.tModeMs] ∧
      t.status = (if k = f.length then 0x01#8 else 0x02#8) ∧ t.cmd = 0x01#8 ∧
      t.baudSet = .nominal ∧ t.modeSet = .known .sleep ∧ t.env.txAnswers = rest ∧
      (∀ a : Addr, a ≠ 0x02#6 → a ≠ 0x05#6 → t.readReg a = s.readReg a)) ∧
    (∃ t, commandRun .txFrame 9 (s.alone (0 :: rest) s.env.rxAnswers s.env.wakeAnswers) = .next t ∧
      t.hist = s.hist ++ [.setMode .normal, .delay Config.tModeMs, .setBaud (Config.nominalBaud / 2),
        .txWrite [0x00#8] 0, .setBaud Config.nominalBaud, .setMode .sleep, .delay Config.tModeMs] ∧
      t.status = 0x02#8 ∧ t.cmd = 0x01#8 ∧ t.baudSet = .nominal ∧ t.modeSet = .known .sleep ∧
      t.env.txAnswers = rest ∧ (∀ a : Addr, a ≠ 0x02#6 → a ≠ 0x05#6 → t.readReg a = s.readReg a))

/-- R85: TX_HEADER's run, whatever LEN holds: when the break is taken whole and the header write answers `k`, and when the
break fails.
The listed answers are the model's form (notes/assumptions/4.md). -/
def Obligations.TxHeaderRun : Prop :=
  ∀ (s : State) (rest : List Nat), s.busy = false →
    (∀ k, k ≤ 2 → ∃ t, commandRun .txHeader 9 (s.alone (1 :: k :: rest) s.env.rxAnswers s.env.wakeAnswers) = .next t ∧
      t.hist = s.hist ++ [.setMode .normal, .delay Config.tModeMs, .setBaud (Config.nominalBaud / 2),
        .txWrite [0x00#8] 1, .setBaud Config.nominalBaud, .txWrite [0x55#8, pid (s.id.setWidth 6)] k,
        .setMode .sleep, .delay Config.tModeMs] ∧
      t.status = (if k = 2 then 0x01#8 else 0x02#8) ∧ t.cmd = 0x02#8 ∧
      t.baudSet = .nominal ∧ t.modeSet = .known .sleep ∧ t.env.txAnswers = rest ∧
      (∀ a : Addr, a ≠ 0x02#6 → a ≠ 0x05#6 → t.readReg a = s.readReg a)) ∧
    (∃ t, commandRun .txHeader 9 (s.alone (0 :: rest) s.env.rxAnswers s.env.wakeAnswers) = .next t ∧
      t.hist = s.hist ++ [.setMode .normal, .delay Config.tModeMs, .setBaud (Config.nominalBaud / 2),
        .txWrite [0x00#8] 0, .setBaud Config.nominalBaud, .setMode .sleep, .delay Config.tModeMs] ∧
      t.status = 0x02#8 ∧ t.cmd = 0x02#8 ∧ t.baudSet = .nominal ∧ t.modeSet = .known .sleep ∧
      t.env.txAnswers = rest ∧ (∀ a : Addr, a ≠ 0x02#6 → a ≠ 0x05#6 → t.readReg a = s.readReg a))

/-- R86: TX_RESPONSE's run: no break, no synch byte, no identifier.
The listed answers are the model's form (notes/assumptions/4.md). -/
def Obligations.TxResponseRun : Prop :=
  ∀ (s : State) (p : List Byte) (k : Nat) (rest : List Nat), s.busy = false → s.len.toNat ≤ 8 →
    p = s.txbuf.toList.take s.len.toNat → k ≤ s.len.toNat + 1 →
    ∃ t, commandRun .txResponse 6 (s.alone (k :: rest) s.env.rxAnswers s.env.wakeAnswers) = .next t ∧
      t.hist = s.hist ++ [.setMode .normal, .delay Config.tModeMs, .txWrite (p ++ [checksum p]) k,
        .setMode .sleep, .delay Config.tModeMs] ∧
      t.status = (if k = s.len.toNat + 1 then 0x01#8 else 0x02#8) ∧ t.cmd = 0x03#8 ∧
      t.baudSet = s.baudSet ∧ t.modeSet = .known .sleep ∧
      (∀ a : Addr, a ≠ 0x02#6 → a ≠ 0x05#6 → t.readReg a = s.readReg a)

/-- R94: TX_RAW's run: a break, then the bytes of TXBUF unchanged, when the break is taken whole and the data write answers `k`,
and when the break fails.
The listed answers are the model's form (notes/assumptions/4.md). -/
def Obligations.TxRawRun : Prop :=
  ∀ (s : State) (p : List Byte) (rest : List Nat), s.busy = false → s.len.toNat ≤ 16 →
    p = s.txbuf.toList.take s.len.toNat →
    (∀ k, k ≤ s.len.toNat → ∃ t, commandRun .txRaw 9 (s.alone (1 :: k :: rest) s.env.rxAnswers s.env.wakeAnswers) = .next t ∧
      t.hist = s.hist ++ [.setMode .normal, .delay Config.tModeMs, .setBaud (Config.nominalBaud / 2),
        .txWrite [0x00#8] 1, .setBaud Config.nominalBaud, .txWrite p k,
        .setMode .sleep, .delay Config.tModeMs] ∧
      t.status = (if k = s.len.toNat then 0x01#8 else 0x02#8) ∧ t.cmd = 0x05#8 ∧
      t.baudSet = .nominal ∧ t.modeSet = .known .sleep ∧ t.env.txAnswers = rest ∧
      (∀ a : Addr, a ≠ 0x02#6 → a ≠ 0x05#6 → t.readReg a = s.readReg a)) ∧
    (∃ t, commandRun .txRaw 9 (s.alone (0 :: rest) s.env.rxAnswers s.env.wakeAnswers) = .next t ∧
      t.hist = s.hist ++ [.setMode .normal, .delay Config.tModeMs, .setBaud (Config.nominalBaud / 2),
        .txWrite [0x00#8] 0, .setBaud Config.nominalBaud, .setMode .sleep, .delay Config.tModeMs] ∧
      t.status = 0x02#8 ∧ t.cmd = 0x05#8 ∧ t.baudSet = .nominal ∧ t.modeSet = .known .sleep ∧
      t.env.txAnswers = rest ∧ (∀ a : Addr, a ≠ 0x02#6 → a ≠ 0x05#6 → t.readReg a = s.readReg a))

/-- R88, R89: RX_FRAME's run reads `n + 3` bytes, keeps what came in STAGE and then runs the finish on it; it changes neither
mode nor rate.
The listed answers are the model's form (notes/assumptions/4.md).
That PHASE stays on the finish is R79's pseudocode, chosen over R29's summary (notes/assumptions/22.md). -/
def Obligations.RxFrameRun : Prop :=
  ∀ (s : State) (rx : List Byte) (rest : List (List Byte)), s.busy = false → s.len.toNat ≤ 8 →
    rx.length ≤ s.len.toNat + 3 →
    ∃ t u, exec .rxFrame (s.alone s.env.txAnswers (rx :: rest) s.env.wakeAnswers) = .next t ∧
      runSteps 2 t = .next u ∧
      u = execMicro (.finishRxFrame s.len.toNat) { t with
        phase := 1#4, stage := rx, hist := s.hist ++ [.rxRead (s.len.toNat + 3) rx],
        env := { t.env with rxAnswers := rest } } ∧
      u.hist = s.hist ++ [.rxRead (s.len.toNat + 3) rx] ∧ u.baudSet = s.baudSet ∧ u.modeSet = s.modeSet ∧
      u.busy = false

/-- R95, R96: RX_RAW's run: no validation, whatever the role.
The listed answers are the model's form (notes/assumptions/4.md). -/
def Obligations.RxRawRun : Prop :=
  ∀ (s : State) (rx : List Byte) (rest : List (List Byte)), s.busy = false → s.len.toNat ≤ 16 →
    rx.length ≤ s.len.toNat →
    ∃ t, commandRun .rxRaw 2 (s.alone s.env.txAnswers (rx :: rest) s.env.wakeAnswers) = .next t ∧
      t.hist = s.hist ++ [.rxRead s.len.toNat rx] ∧
      t.status = (if rx.length = s.len.toNat then 0x01#8 else 0x02#8) ∧ t.cmd = 0x06#8 ∧
      t.baudSet = s.baudSet ∧ t.modeSet = s.modeSet ∧
      (∀ (i : Nat) (hi : i < 16), t.rxbuf[i] =
        if rx.length = s.len.toNat ∧ i < s.len.toNat then rx.getD i 0x00#8 else s.rxbuf[i])

/-- R97: WAKE's run: one pulse, no Transport event, no bracket.
The listed answers are the model's form (notes/assumptions/4.md). -/
def Obligations.WakeRun : Prop :=
  ∀ (s : State) (ok : Bool) (rest : List Bool), s.busy = false →
    ∃ t, commandRun .wake 2 (s.alone s.env.txAnswers s.env.rxAnswers (ok :: rest)) = .next t ∧
      t.hist = s.hist ++ [.wakePulse ok] ∧ t.status = (if ok then 0x01#8 else 0x02#8) ∧ t.cmd = 0x07#8 ∧
      t.baudSet = s.baudSet ∧ t.modeSet = s.modeSet ∧
      (∀ a : Addr, a ≠ 0x02#6 → a ≠ 0x05#6 → t.readReg a = s.readReg a)

/-- R80, R82, R83, R87, R102: whatever the ports answer, drawn answers included, an accepted transmit command ends with OK or
TRANSPORT_ERROR, opens with MODE(Normal) and its delay and closes with MODE(Sleep) and its delay, and leaves the nominal rate
asked for (TX_RESPONSE asks for none, and keeps what was). No retry: its TxWrites are those of the first WRITEs of its
program, each once and in order, none after one that fell short; the result is TRANSPORT_ERROR exactly when one fell short,
and else every WRITE had its TxWrite.
It rests on every port answering in its step (notes/assumptions/16.md). -/
def Obligations.TransmitAlwaysRestores : Prop :=
  ∀ (i : Instr) (s t : State), i = .txFrame ∨ i = .txHeader ∨ i = .txResponse ∨ i = .txRaw →
    s.busy = false → s.env.inputs = [] → exec i s = .next t → t.busy = true →
    ∃ u mid, runSteps t.prog.length t = .next u ∧ u.busy = false ∧
      (u.status = 0x01#8 ∨ u.status = 0x02#8) ∧
      u.hist = s.hist ++ [.setMode .normal, .delay Config.tModeMs] ++ mid ++
        [.setMode .sleep, .delay Config.tModeMs] ∧
      mid.length ≤ 4 ∧
      mid.filter (fun e => (txWriteOf e).isNone) =
        (if i = .txResponse then [] else [.setBaud (Config.nominalBaud / 2), .setBaud Config.nominalBaud]) ∧
      (txWrites mid).map Prod.fst <+: programWrites t.prog ∧
      (∀ w ∈ (txWrites mid).dropLast, w.2 = w.1.length) ∧
      (u.status = 0x02#8 ↔ ∃ w ∈ txWrites mid, w.2 < w.1.length) ∧
      (u.status = 0x01#8 → (txWrites mid).map Prod.fst = programWrites t.prog) ∧
      u.modeSet = .known .sleep ∧
      u.baudSet = (if i = .txResponse then s.baudSet else .nominal) ∧
      (∀ a : Addr, a ≠ 0x02#6 → a ≠ 0x05#6 → u.readReg a = s.readReg a)

/-- R93 (a), (b), (c): a truncated read is a transport error; a good frame with one flipped bit of its checksum byte is a
checksum mismatch; a slave bound to 0x05 rejects every identifier byte but 0x85, 0x05 among them; RXBUF stays in each case.
The listed answers are the model's form (notes/assumptions/4.md). -/
def Obligations.ReceiveRejectsBadFrames : Prop :=
  pid 0x05#6 = 0x85#8 ∧
  ∀ (s : State) (b : List Byte), s.busy = false → s.len.toNat ≤ 8 →
    (b.length < s.len.toNat + 3 →
      ∃ u, commandRun .rxFrame 2 (s.alone [] [b] []) = .next u ∧ u.status = 0x02#8 ∧ u.rxbuf = s.rxbuf) ∧
    (∀ (u : State) (k : Nat), b.length = s.len.toNat + 3 → commandRun .rxFrame 2 (s.alone [] [b] []) = .next u →
      u.status = 0x01#8 → k < 8 →
      ∃ w, commandRun .rxFrame 2 (s.alone [] [b.set (s.len.toNat + 2)
          (b.getD (s.len.toNat + 2) 0x00#8 ^^^ (0x01#8 <<< k))] []) = .next w ∧
        w.status = 0x03#8 ∧ w.rxbuf = s.rxbuf) ∧
    (s.role = .slave → s.boundPid = 0x85#8 → b.length = s.len.toNat + 3 → b.getD 1 0x00#8 ≠ 0x85#8 →
      ∃ u, commandRun .rxFrame 2 (s.alone [] [b] []) = .next u ∧ u.status = 0x04#8 ∧ u.rxbuf = s.rxbuf)

/-- R93 (d), R47, R59, R61: the bytes a complete TX_FRAME puts on the transmit stream are the break's 0x00 at the break rate
and then the frame at the nominal rate; received as a frame of that length, by a master or by a slave bound to that
identifier, they give OK and the payload. That the break's byte goes out at the break rate is the Transport's duty
(R121, notes/assumptions/17.md). The listed answers are the model's form (notes/assumptions/4.md). -/
def Obligations.FrameRoundTrip : Prop :=
  ∀ (sTx sRx : State) (rest : List Nat), sTx.busy = false → sTx.len.toNat ≤ 8 → sRx.busy = false →
    sRx.len = sTx.len →
    sRx.role = .master ∨ (sRx.role = .slave ∧ sRx.boundPid = pid (sTx.id.setWidth 6)) →
    ∃ t b, commandRun .txFrame 9 (sTx.alone (1 :: (sTx.len.toNat + 3) :: rest) [] []) = .next t ∧
      t.status = 0x01#8 ∧
      txStream t.hist = txStream sTx.hist ++
        (some (Config.nominalBaud / 2), 0x00#8) :: b.map (fun c => (some Config.nominalBaud, c)) ∧
      ∃ u, commandRun .rxFrame 2 (sRx.alone [] [b] []) = .next u ∧ u.status = 0x01#8 ∧
        ∀ (i : Nat) (hi : i < 16), i < sTx.len.toNat → u.rxbuf[i] = sTx.txbuf[i]
end

