-- ==== Sys2Proof/Laws/State.lean ====
section
/-! SUPPORT. What each update of State does to each field: one equation per field per update. -/

namespace Sys2Proof.Machine

/-! ### setCmd -/

@[simp] theorem State.setCmd_cfg (v : Byte) (s : State) : (s.setCmd v).cfg = s.cfg := rfl
@[simp] theorem State.setCmd_boundPid (v : Byte) (s : State) : (s.setCmd v).boundPid = s.boundPid := rfl
@[simp] theorem State.setCmd_cmd (v : Byte) (s : State) : (s.setCmd v).cmd = v := rfl
@[simp] theorem State.setCmd_id (v : Byte) (s : State) : (s.setCmd v).id = s.id := rfl
@[simp] theorem State.setCmd_len (v : Byte) (s : State) : (s.setCmd v).len = s.len := rfl
@[simp] theorem State.setCmd_status (v : Byte) (s : State) : (s.setCmd v).status = s.status := rfl
@[simp] theorem State.setCmd_txbuf (v : Byte) (s : State) : (s.setCmd v).txbuf = s.txbuf := rfl
@[simp] theorem State.setCmd_rxbuf (v : Byte) (s : State) : (s.setCmd v).rxbuf = s.rxbuf := rfl
@[simp] theorem State.setCmd_phase (v : Byte) (s : State) : (s.setCmd v).phase = s.phase := rfl
@[simp] theorem State.setCmd_prog (v : Byte) (s : State) : (s.setCmd v).prog = s.prog := rfl
@[simp] theorem State.setCmd_fail (v : Byte) (s : State) : (s.setCmd v).fail = s.fail := rfl
@[simp] theorem State.setCmd_stage (v : Byte) (s : State) : (s.setCmd v).stage = s.stage := rfl
@[simp] theorem State.setCmd_baudSet (v : Byte) (s : State) : (s.setCmd v).baudSet = s.baudSet := rfl
@[simp] theorem State.setCmd_modeSet (v : Byte) (s : State) : (s.setCmd v).modeSet = s.modeSet := rfl
@[simp] theorem State.setCmd_hist (v : Byte) (s : State) : (s.setCmd v).hist = s.hist := rfl
@[simp] theorem State.setCmd_env (v : Byte) (s : State) : (s.setCmd v).env = s.env := rfl
@[simp] theorem State.setCmd_busy (v : Byte) (s : State) : (s.setCmd v).busy = s.busy := rfl
@[simp] theorem State.setCmd_role (v : Byte) (s : State) : (s.setCmd v).role = s.role := rfl

/-! ### setId -/

@[simp] theorem State.setId_cfg (v : Byte) (s : State) : (s.setId v).cfg = s.cfg := rfl
@[simp] theorem State.setId_boundPid (v : Byte) (s : State) : (s.setId v).boundPid = s.boundPid := rfl
@[simp] theorem State.setId_cmd (v : Byte) (s : State) : (s.setId v).cmd = s.cmd := rfl
@[simp] theorem State.setId_id (v : Byte) (s : State) : (s.setId v).id = v &&& 0x3F#8 := rfl
@[simp] theorem State.setId_len (v : Byte) (s : State) : (s.setId v).len = s.len := rfl
@[simp] theorem State.setId_status (v : Byte) (s : State) : (s.setId v).status = s.status := rfl
@[simp] theorem State.setId_txbuf (v : Byte) (s : State) : (s.setId v).txbuf = s.txbuf := rfl
@[simp] theorem State.setId_rxbuf (v : Byte) (s : State) : (s.setId v).rxbuf = s.rxbuf := rfl
@[simp] theorem State.setId_phase (v : Byte) (s : State) : (s.setId v).phase = s.phase := rfl
@[simp] theorem State.setId_prog (v : Byte) (s : State) : (s.setId v).prog = s.prog := rfl
@[simp] theorem State.setId_fail (v : Byte) (s : State) : (s.setId v).fail = s.fail := rfl
@[simp] theorem State.setId_stage (v : Byte) (s : State) : (s.setId v).stage = s.stage := rfl
@[simp] theorem State.setId_baudSet (v : Byte) (s : State) : (s.setId v).baudSet = s.baudSet := rfl
@[simp] theorem State.setId_modeSet (v : Byte) (s : State) : (s.setId v).modeSet = s.modeSet := rfl
@[simp] theorem State.setId_hist (v : Byte) (s : State) : (s.setId v).hist = s.hist := rfl
@[simp] theorem State.setId_env (v : Byte) (s : State) : (s.setId v).env = s.env := rfl
@[simp] theorem State.setId_busy (v : Byte) (s : State) : (s.setId v).busy = s.busy := rfl
@[simp] theorem State.setId_role (v : Byte) (s : State) : (s.setId v).role = s.role := rfl

/-! ### setLen -/

@[simp] theorem State.setLen_cfg (v : Byte) (s : State) : (s.setLen v).cfg = s.cfg := rfl
@[simp] theorem State.setLen_boundPid (v : Byte) (s : State) : (s.setLen v).boundPid = s.boundPid := rfl
@[simp] theorem State.setLen_cmd (v : Byte) (s : State) : (s.setLen v).cmd = s.cmd := rfl
@[simp] theorem State.setLen_id (v : Byte) (s : State) : (s.setLen v).id = s.id := rfl
@[simp] theorem State.setLen_len (v : Byte) (s : State) : (s.setLen v).len = v := rfl
@[simp] theorem State.setLen_status (v : Byte) (s : State) : (s.setLen v).status = s.status := rfl
@[simp] theorem State.setLen_txbuf (v : Byte) (s : State) : (s.setLen v).txbuf = s.txbuf := rfl
@[simp] theorem State.setLen_rxbuf (v : Byte) (s : State) : (s.setLen v).rxbuf = s.rxbuf := rfl
@[simp] theorem State.setLen_phase (v : Byte) (s : State) : (s.setLen v).phase = s.phase := rfl
@[simp] theorem State.setLen_prog (v : Byte) (s : State) : (s.setLen v).prog = s.prog := rfl
@[simp] theorem State.setLen_fail (v : Byte) (s : State) : (s.setLen v).fail = s.fail := rfl
@[simp] theorem State.setLen_stage (v : Byte) (s : State) : (s.setLen v).stage = s.stage := rfl
@[simp] theorem State.setLen_baudSet (v : Byte) (s : State) : (s.setLen v).baudSet = s.baudSet := rfl
@[simp] theorem State.setLen_modeSet (v : Byte) (s : State) : (s.setLen v).modeSet = s.modeSet := rfl
@[simp] theorem State.setLen_hist (v : Byte) (s : State) : (s.setLen v).hist = s.hist := rfl
@[simp] theorem State.setLen_env (v : Byte) (s : State) : (s.setLen v).env = s.env := rfl
@[simp] theorem State.setLen_busy (v : Byte) (s : State) : (s.setLen v).busy = s.busy := rfl
@[simp] theorem State.setLen_role (v : Byte) (s : State) : (s.setLen v).role = s.role := rfl

/-! ### setStatus -/

@[simp] theorem State.setStatus_cfg (v : Byte) (s : State) : (s.setStatus v).cfg = s.cfg := rfl
@[simp] theorem State.setStatus_boundPid (v : Byte) (s : State) : (s.setStatus v).boundPid = s.boundPid := rfl
@[simp] theorem State.setStatus_cmd (v : Byte) (s : State) : (s.setStatus v).cmd = s.cmd := rfl
@[simp] theorem State.setStatus_id (v : Byte) (s : State) : (s.setStatus v).id = s.id := rfl
@[simp] theorem State.setStatus_len (v : Byte) (s : State) : (s.setStatus v).len = s.len := rfl
@[simp] theorem State.setStatus_status (v : Byte) (s : State) : (s.setStatus v).status = v := rfl
@[simp] theorem State.setStatus_txbuf (v : Byte) (s : State) : (s.setStatus v).txbuf = s.txbuf := rfl
@[simp] theorem State.setStatus_rxbuf (v : Byte) (s : State) : (s.setStatus v).rxbuf = s.rxbuf := rfl
@[simp] theorem State.setStatus_phase (v : Byte) (s : State) : (s.setStatus v).phase = s.phase := rfl
@[simp] theorem State.setStatus_prog (v : Byte) (s : State) : (s.setStatus v).prog = s.prog := rfl
@[simp] theorem State.setStatus_fail (v : Byte) (s : State) : (s.setStatus v).fail = s.fail := rfl
@[simp] theorem State.setStatus_stage (v : Byte) (s : State) : (s.setStatus v).stage = s.stage := rfl
@[simp] theorem State.setStatus_baudSet (v : Byte) (s : State) : (s.setStatus v).baudSet = s.baudSet := rfl
@[simp] theorem State.setStatus_modeSet (v : Byte) (s : State) : (s.setStatus v).modeSet = s.modeSet := rfl
@[simp] theorem State.setStatus_hist (v : Byte) (s : State) : (s.setStatus v).hist = s.hist := rfl
@[simp] theorem State.setStatus_env (v : Byte) (s : State) : (s.setStatus v).env = s.env := rfl
@[simp] theorem State.setStatus_role (v : Byte) (s : State) : (s.setStatus v).role = s.role := rfl

/-! ### setTxbuf -/

@[simp] theorem State.setTxbuf_cfg (b : Vector Byte 16) (s : State) : (s.setTxbuf b).cfg = s.cfg := rfl
@[simp] theorem State.setTxbuf_boundPid (b : Vector Byte 16) (s : State) : (s.setTxbuf b).boundPid = s.boundPid := rfl
@[simp] theorem State.setTxbuf_cmd (b : Vector Byte 16) (s : State) : (s.setTxbuf b).cmd = s.cmd := rfl
@[simp] theorem State.setTxbuf_id (b : Vector Byte 16) (s : State) : (s.setTxbuf b).id = s.id := rfl
@[simp] theorem State.setTxbuf_len (b : Vector Byte 16) (s : State) : (s.setTxbuf b).len = s.len := rfl
@[simp] theorem State.setTxbuf_status (b : Vector Byte 16) (s : State) : (s.setTxbuf b).status = s.status := rfl
@[simp] theorem State.setTxbuf_txbuf (b : Vector Byte 16) (s : State) : (s.setTxbuf b).txbuf = b := rfl
@[simp] theorem State.setTxbuf_rxbuf (b : Vector Byte 16) (s : State) : (s.setTxbuf b).rxbuf = s.rxbuf := rfl
@[simp] theorem State.setTxbuf_phase (b : Vector Byte 16) (s : State) : (s.setTxbuf b).phase = s.phase := rfl
@[simp] theorem State.setTxbuf_prog (b : Vector Byte 16) (s : State) : (s.setTxbuf b).prog = s.prog := rfl
@[simp] theorem State.setTxbuf_fail (b : Vector Byte 16) (s : State) : (s.setTxbuf b).fail = s.fail := rfl
@[simp] theorem State.setTxbuf_stage (b : Vector Byte 16) (s : State) : (s.setTxbuf b).stage = s.stage := rfl
@[simp] theorem State.setTxbuf_baudSet (b : Vector Byte 16) (s : State) : (s.setTxbuf b).baudSet = s.baudSet := rfl
@[simp] theorem State.setTxbuf_modeSet (b : Vector Byte 16) (s : State) : (s.setTxbuf b).modeSet = s.modeSet := rfl
@[simp] theorem State.setTxbuf_hist (b : Vector Byte 16) (s : State) : (s.setTxbuf b).hist = s.hist := rfl
@[simp] theorem State.setTxbuf_env (b : Vector Byte 16) (s : State) : (s.setTxbuf b).env = s.env := rfl
@[simp] theorem State.setTxbuf_busy (b : Vector Byte 16) (s : State) : (s.setTxbuf b).busy = s.busy := rfl
@[simp] theorem State.setTxbuf_role (b : Vector Byte 16) (s : State) : (s.setTxbuf b).role = s.role := rfl

/-! ### setRxbuf -/

@[simp] theorem State.setRxbuf_cfg (b : Vector Byte 16) (s : State) : (s.setRxbuf b).cfg = s.cfg := rfl
@[simp] theorem State.setRxbuf_boundPid (b : Vector Byte 16) (s : State) : (s.setRxbuf b).boundPid = s.boundPid := rfl
@[simp] theorem State.setRxbuf_cmd (b : Vector Byte 16) (s : State) : (s.setRxbuf b).cmd = s.cmd := rfl
@[simp] theorem State.setRxbuf_id (b : Vector Byte 16) (s : State) : (s.setRxbuf b).id = s.id := rfl
@[simp] theorem State.setRxbuf_len (b : Vector Byte 16) (s : State) : (s.setRxbuf b).len = s.len := rfl
@[simp] theorem State.setRxbuf_status (b : Vector Byte 16) (s : State) : (s.setRxbuf b).status = s.status := rfl
@[simp] theorem State.setRxbuf_txbuf (b : Vector Byte 16) (s : State) : (s.setRxbuf b).txbuf = s.txbuf := rfl
@[simp] theorem State.setRxbuf_rxbuf (b : Vector Byte 16) (s : State) : (s.setRxbuf b).rxbuf = b := rfl
@[simp] theorem State.setRxbuf_phase (b : Vector Byte 16) (s : State) : (s.setRxbuf b).phase = s.phase := rfl
@[simp] theorem State.setRxbuf_prog (b : Vector Byte 16) (s : State) : (s.setRxbuf b).prog = s.prog := rfl
@[simp] theorem State.setRxbuf_fail (b : Vector Byte 16) (s : State) : (s.setRxbuf b).fail = s.fail := rfl
@[simp] theorem State.setRxbuf_stage (b : Vector Byte 16) (s : State) : (s.setRxbuf b).stage = s.stage := rfl
@[simp] theorem State.setRxbuf_baudSet (b : Vector Byte 16) (s : State) : (s.setRxbuf b).baudSet = s.baudSet := rfl
@[simp] theorem State.setRxbuf_modeSet (b : Vector Byte 16) (s : State) : (s.setRxbuf b).modeSet = s.modeSet := rfl
@[simp] theorem State.setRxbuf_hist (b : Vector Byte 16) (s : State) : (s.setRxbuf b).hist = s.hist := rfl
@[simp] theorem State.setRxbuf_env (b : Vector Byte 16) (s : State) : (s.setRxbuf b).env = s.env := rfl
@[simp] theorem State.setRxbuf_busy (b : Vector Byte 16) (s : State) : (s.setRxbuf b).busy = s.busy := rfl
@[simp] theorem State.setRxbuf_role (b : Vector Byte 16) (s : State) : (s.setRxbuf b).role = s.role := rfl

/-! ### nextPhase -/

@[simp] theorem State.nextPhase_cfg (s : State) : s.nextPhase.cfg = s.cfg := rfl
@[simp] theorem State.nextPhase_boundPid (s : State) : s.nextPhase.boundPid = s.boundPid := rfl
@[simp] theorem State.nextPhase_cmd (s : State) : s.nextPhase.cmd = s.cmd := rfl
@[simp] theorem State.nextPhase_id (s : State) : s.nextPhase.id = s.id := rfl
@[simp] theorem State.nextPhase_len (s : State) : s.nextPhase.len = s.len := rfl
@[simp] theorem State.nextPhase_status (s : State) : s.nextPhase.status = s.status := rfl
@[simp] theorem State.nextPhase_txbuf (s : State) : s.nextPhase.txbuf = s.txbuf := rfl
@[simp] theorem State.nextPhase_rxbuf (s : State) : s.nextPhase.rxbuf = s.rxbuf := rfl
@[simp] theorem State.nextPhase_phase (s : State) : s.nextPhase.phase = s.phase + 1#4 := rfl
@[simp] theorem State.nextPhase_prog (s : State) : s.nextPhase.prog = s.prog := rfl
@[simp] theorem State.nextPhase_fail (s : State) : s.nextPhase.fail = s.fail := rfl
@[simp] theorem State.nextPhase_stage (s : State) : s.nextPhase.stage = s.stage := rfl
@[simp] theorem State.nextPhase_baudSet (s : State) : s.nextPhase.baudSet = s.baudSet := rfl
@[simp] theorem State.nextPhase_modeSet (s : State) : s.nextPhase.modeSet = s.modeSet := rfl
@[simp] theorem State.nextPhase_hist (s : State) : s.nextPhase.hist = s.hist := rfl
@[simp] theorem State.nextPhase_env (s : State) : s.nextPhase.env = s.env := rfl
@[simp] theorem State.nextPhase_busy (s : State) : s.nextPhase.busy = s.busy := rfl
@[simp] theorem State.nextPhase_role (s : State) : s.nextPhase.role = s.role := rfl

/-! ### setFail -/

@[simp] theorem State.setFail_cfg (b : Bool) (s : State) : (s.setFail b).cfg = s.cfg := rfl
@[simp] theorem State.setFail_boundPid (b : Bool) (s : State) : (s.setFail b).boundPid = s.boundPid := rfl
@[simp] theorem State.setFail_cmd (b : Bool) (s : State) : (s.setFail b).cmd = s.cmd := rfl
@[simp] theorem State.setFail_id (b : Bool) (s : State) : (s.setFail b).id = s.id := rfl
@[simp] theorem State.setFail_len (b : Bool) (s : State) : (s.setFail b).len = s.len := rfl
@[simp] theorem State.setFail_status (b : Bool) (s : State) : (s.setFail b).status = s.status := rfl
@[simp] theorem State.setFail_txbuf (b : Bool) (s : State) : (s.setFail b).txbuf = s.txbuf := rfl
@[simp] theorem State.setFail_rxbuf (b : Bool) (s : State) : (s.setFail b).rxbuf = s.rxbuf := rfl
@[simp] theorem State.setFail_phase (b : Bool) (s : State) : (s.setFail b).phase = s.phase := rfl
@[simp] theorem State.setFail_prog (b : Bool) (s : State) : (s.setFail b).prog = s.prog := rfl
@[simp] theorem State.setFail_fail (b : Bool) (s : State) : (s.setFail b).fail = b := rfl
@[simp] theorem State.setFail_stage (b : Bool) (s : State) : (s.setFail b).stage = s.stage := rfl
@[simp] theorem State.setFail_baudSet (b : Bool) (s : State) : (s.setFail b).baudSet = s.baudSet := rfl
@[simp] theorem State.setFail_modeSet (b : Bool) (s : State) : (s.setFail b).modeSet = s.modeSet := rfl
@[simp] theorem State.setFail_hist (b : Bool) (s : State) : (s.setFail b).hist = s.hist := rfl
@[simp] theorem State.setFail_env (b : Bool) (s : State) : (s.setFail b).env = s.env := rfl
@[simp] theorem State.setFail_busy (b : Bool) (s : State) : (s.setFail b).busy = s.busy := rfl
@[simp] theorem State.setFail_role (b : Bool) (s : State) : (s.setFail b).role = s.role := rfl

/-! ### setStage -/

@[simp] theorem State.setStage_cfg (l : List Byte) (s : State) : (s.setStage l).cfg = s.cfg := rfl
@[simp] theorem State.setStage_boundPid (l : List Byte) (s : State) : (s.setStage l).boundPid = s.boundPid := rfl
@[simp] theorem State.setStage_cmd (l : List Byte) (s : State) : (s.setStage l).cmd = s.cmd := rfl
@[simp] theorem State.setStage_id (l : List Byte) (s : State) : (s.setStage l).id = s.id := rfl
@[simp] theorem State.setStage_len (l : List Byte) (s : State) : (s.setStage l).len = s.len := rfl
@[simp] theorem State.setStage_status (l : List Byte) (s : State) : (s.setStage l).status = s.status := rfl
@[simp] theorem State.setStage_txbuf (l : List Byte) (s : State) : (s.setStage l).txbuf = s.txbuf := rfl
@[simp] theorem State.setStage_rxbuf (l : List Byte) (s : State) : (s.setStage l).rxbuf = s.rxbuf := rfl
@[simp] theorem State.setStage_phase (l : List Byte) (s : State) : (s.setStage l).phase = s.phase := rfl
@[simp] theorem State.setStage_prog (l : List Byte) (s : State) : (s.setStage l).prog = s.prog := rfl
@[simp] theorem State.setStage_fail (l : List Byte) (s : State) : (s.setStage l).fail = s.fail := rfl
@[simp] theorem State.setStage_stage (l : List Byte) (s : State) : (s.setStage l).stage = l := rfl
@[simp] theorem State.setStage_baudSet (l : List Byte) (s : State) : (s.setStage l).baudSet = s.baudSet := rfl
@[simp] theorem State.setStage_modeSet (l : List Byte) (s : State) : (s.setStage l).modeSet = s.modeSet := rfl
@[simp] theorem State.setStage_hist (l : List Byte) (s : State) : (s.setStage l).hist = s.hist := rfl
@[simp] theorem State.setStage_env (l : List Byte) (s : State) : (s.setStage l).env = s.env := rfl
@[simp] theorem State.setStage_busy (l : List Byte) (s : State) : (s.setStage l).busy = s.busy := rfl
@[simp] theorem State.setStage_role (l : List Byte) (s : State) : (s.setStage l).role = s.role := rfl

/-! ### setBaudSet -/

@[simp] theorem State.setBaudSet_cfg (r : BaudRate) (s : State) : (s.setBaudSet r).cfg = s.cfg := rfl
@[simp] theorem State.setBaudSet_boundPid (r : BaudRate) (s : State) : (s.setBaudSet r).boundPid = s.boundPid := rfl
@[simp] theorem State.setBaudSet_cmd (r : BaudRate) (s : State) : (s.setBaudSet r).cmd = s.cmd := rfl
@[simp] theorem State.setBaudSet_id (r : BaudRate) (s : State) : (s.setBaudSet r).id = s.id := rfl
@[simp] theorem State.setBaudSet_len (r : BaudRate) (s : State) : (s.setBaudSet r).len = s.len := rfl
@[simp] theorem State.setBaudSet_status (r : BaudRate) (s : State) : (s.setBaudSet r).status = s.status := rfl
@[simp] theorem State.setBaudSet_txbuf (r : BaudRate) (s : State) : (s.setBaudSet r).txbuf = s.txbuf := rfl
@[simp] theorem State.setBaudSet_rxbuf (r : BaudRate) (s : State) : (s.setBaudSet r).rxbuf = s.rxbuf := rfl
@[simp] theorem State.setBaudSet_phase (r : BaudRate) (s : State) : (s.setBaudSet r).phase = s.phase := rfl
@[simp] theorem State.setBaudSet_prog (r : BaudRate) (s : State) : (s.setBaudSet r).prog = s.prog := rfl
@[simp] theorem State.setBaudSet_fail (r : BaudRate) (s : State) : (s.setBaudSet r).fail = s.fail := rfl
@[simp] theorem State.setBaudSet_stage (r : BaudRate) (s : State) : (s.setBaudSet r).stage = s.stage := rfl
@[simp] theorem State.setBaudSet_baudSet (r : BaudRate) (s : State) : (s.setBaudSet r).baudSet = r := rfl
@[simp] theorem State.setBaudSet_modeSet (r : BaudRate) (s : State) : (s.setBaudSet r).modeSet = s.modeSet := rfl
@[simp] theorem State.setBaudSet_hist (r : BaudRate) (s : State) : (s.setBaudSet r).hist = s.hist := rfl
@[simp] theorem State.setBaudSet_env (r : BaudRate) (s : State) : (s.setBaudSet r).env = s.env := rfl
@[simp] theorem State.setBaudSet_busy (r : BaudRate) (s : State) : (s.setBaudSet r).busy = s.busy := rfl
@[simp] theorem State.setBaudSet_role (r : BaudRate) (s : State) : (s.setBaudSet r).role = s.role := rfl

/-! ### setModeSet -/

@[simp] theorem State.setModeSet_cfg (m : Mode) (s : State) : (s.setModeSet m).cfg = s.cfg := rfl
@[simp] theorem State.setModeSet_boundPid (m : Mode) (s : State) : (s.setModeSet m).boundPid = s.boundPid := rfl
@[simp] theorem State.setModeSet_cmd (m : Mode) (s : State) : (s.setModeSet m).cmd = s.cmd := rfl
@[simp] theorem State.setModeSet_id (m : Mode) (s : State) : (s.setModeSet m).id = s.id := rfl
@[simp] theorem State.setModeSet_len (m : Mode) (s : State) : (s.setModeSet m).len = s.len := rfl
@[simp] theorem State.setModeSet_status (m : Mode) (s : State) : (s.setModeSet m).status = s.status := rfl
@[simp] theorem State.setModeSet_txbuf (m : Mode) (s : State) : (s.setModeSet m).txbuf = s.txbuf := rfl
@[simp] theorem State.setModeSet_rxbuf (m : Mode) (s : State) : (s.setModeSet m).rxbuf = s.rxbuf := rfl
@[simp] theorem State.setModeSet_phase (m : Mode) (s : State) : (s.setModeSet m).phase = s.phase := rfl
@[simp] theorem State.setModeSet_prog (m : Mode) (s : State) : (s.setModeSet m).prog = s.prog := rfl
@[simp] theorem State.setModeSet_fail (m : Mode) (s : State) : (s.setModeSet m).fail = s.fail := rfl
@[simp] theorem State.setModeSet_stage (m : Mode) (s : State) : (s.setModeSet m).stage = s.stage := rfl
@[simp] theorem State.setModeSet_baudSet (m : Mode) (s : State) : (s.setModeSet m).baudSet = s.baudSet := rfl
@[simp] theorem State.setModeSet_modeSet (m : Mode) (s : State) : (s.setModeSet m).modeSet = .known m := rfl
@[simp] theorem State.setModeSet_hist (m : Mode) (s : State) : (s.setModeSet m).hist = s.hist := rfl
@[simp] theorem State.setModeSet_env (m : Mode) (s : State) : (s.setModeSet m).env = s.env := rfl
@[simp] theorem State.setModeSet_busy (m : Mode) (s : State) : (s.setModeSet m).busy = s.busy := rfl
@[simp] theorem State.setModeSet_role (m : Mode) (s : State) : (s.setModeSet m).role = s.role := rfl

/-! ### emit -/

@[simp] theorem State.emit_cfg (e : Event) (s : State) : (s.emit e).cfg = s.cfg := rfl
@[simp] theorem State.emit_boundPid (e : Event) (s : State) : (s.emit e).boundPid = s.boundPid := rfl
@[simp] theorem State.emit_cmd (e : Event) (s : State) : (s.emit e).cmd = s.cmd := rfl
@[simp] theorem State.emit_id (e : Event) (s : State) : (s.emit e).id = s.id := rfl
@[simp] theorem State.emit_len (e : Event) (s : State) : (s.emit e).len = s.len := rfl
@[simp] theorem State.emit_status (e : Event) (s : State) : (s.emit e).status = s.status := rfl
@[simp] theorem State.emit_txbuf (e : Event) (s : State) : (s.emit e).txbuf = s.txbuf := rfl
@[simp] theorem State.emit_rxbuf (e : Event) (s : State) : (s.emit e).rxbuf = s.rxbuf := rfl
@[simp] theorem State.emit_phase (e : Event) (s : State) : (s.emit e).phase = s.phase := rfl
@[simp] theorem State.emit_prog (e : Event) (s : State) : (s.emit e).prog = s.prog := rfl
@[simp] theorem State.emit_fail (e : Event) (s : State) : (s.emit e).fail = s.fail := rfl
@[simp] theorem State.emit_stage (e : Event) (s : State) : (s.emit e).stage = s.stage := rfl
@[simp] theorem State.emit_baudSet (e : Event) (s : State) : (s.emit e).baudSet = s.baudSet := rfl
@[simp] theorem State.emit_modeSet (e : Event) (s : State) : (s.emit e).modeSet = s.modeSet := rfl
@[simp] theorem State.emit_hist (e : Event) (s : State) : (s.emit e).hist = s.hist ++ [e] := rfl
@[simp] theorem State.emit_env (e : Event) (s : State) : (s.emit e).env = s.env := rfl
@[simp] theorem State.emit_busy (e : Event) (s : State) : (s.emit e).busy = s.busy := rfl
@[simp] theorem State.emit_role (e : Event) (s : State) : (s.emit e).role = s.role := rfl

/-! ### setEnv -/

@[simp] theorem State.setEnv_cfg (e : Env) (s : State) : (s.setEnv e).cfg = s.cfg := rfl
@[simp] theorem State.setEnv_boundPid (e : Env) (s : State) : (s.setEnv e).boundPid = s.boundPid := rfl
@[simp] theorem State.setEnv_cmd (e : Env) (s : State) : (s.setEnv e).cmd = s.cmd := rfl
@[simp] theorem State.setEnv_id (e : Env) (s : State) : (s.setEnv e).id = s.id := rfl
@[simp] theorem State.setEnv_len (e : Env) (s : State) : (s.setEnv e).len = s.len := rfl
@[simp] theorem State.setEnv_status (e : Env) (s : State) : (s.setEnv e).status = s.status := rfl
@[simp] theorem State.setEnv_txbuf (e : Env) (s : State) : (s.setEnv e).txbuf = s.txbuf := rfl
@[simp] theorem State.setEnv_rxbuf (e : Env) (s : State) : (s.setEnv e).rxbuf = s.rxbuf := rfl
@[simp] theorem State.setEnv_phase (e : Env) (s : State) : (s.setEnv e).phase = s.phase := rfl
@[simp] theorem State.setEnv_prog (e : Env) (s : State) : (s.setEnv e).prog = s.prog := rfl
@[simp] theorem State.setEnv_fail (e : Env) (s : State) : (s.setEnv e).fail = s.fail := rfl
@[simp] theorem State.setEnv_stage (e : Env) (s : State) : (s.setEnv e).stage = s.stage := rfl
@[simp] theorem State.setEnv_baudSet (e : Env) (s : State) : (s.setEnv e).baudSet = s.baudSet := rfl
@[simp] theorem State.setEnv_modeSet (e : Env) (s : State) : (s.setEnv e).modeSet = s.modeSet := rfl
@[simp] theorem State.setEnv_hist (e : Env) (s : State) : (s.setEnv e).hist = s.hist := rfl
@[simp] theorem State.setEnv_env (e : Env) (s : State) : (s.setEnv e).env = e := rfl
@[simp] theorem State.setEnv_busy (e : Env) (s : State) : (s.setEnv e).busy = s.busy := rfl
@[simp] theorem State.setEnv_role (e : Env) (s : State) : (s.setEnv e).role = s.role := rfl

/-! ### finish -/

@[simp] theorem State.finish_cfg (r : Result) (s : State) : (s.finish r).cfg = s.cfg := rfl
@[simp] theorem State.finish_boundPid (r : Result) (s : State) : (s.finish r).boundPid = s.boundPid := rfl
@[simp] theorem State.finish_cmd (r : Result) (s : State) : (s.finish r).cmd = s.cmd := rfl
@[simp] theorem State.finish_id (r : Result) (s : State) : (s.finish r).id = s.id := rfl
@[simp] theorem State.finish_len (r : Result) (s : State) : (s.finish r).len = s.len := rfl
@[simp] theorem State.finish_status (r : Result) (s : State) : (s.finish r).status = statusByte false r := rfl
@[simp] theorem State.finish_txbuf (r : Result) (s : State) : (s.finish r).txbuf = s.txbuf := rfl
@[simp] theorem State.finish_rxbuf (r : Result) (s : State) : (s.finish r).rxbuf = s.rxbuf := rfl
@[simp] theorem State.finish_phase (r : Result) (s : State) : (s.finish r).phase = s.phase := rfl
@[simp] theorem State.finish_prog (r : Result) (s : State) : (s.finish r).prog = s.prog := rfl
@[simp] theorem State.finish_fail (r : Result) (s : State) : (s.finish r).fail = s.fail := rfl
@[simp] theorem State.finish_stage (r : Result) (s : State) : (s.finish r).stage = s.stage := rfl
@[simp] theorem State.finish_baudSet (r : Result) (s : State) : (s.finish r).baudSet = s.baudSet := rfl
@[simp] theorem State.finish_modeSet (r : Result) (s : State) : (s.finish r).modeSet = s.modeSet := rfl
@[simp] theorem State.finish_hist (r : Result) (s : State) : (s.finish r).hist = s.hist := rfl
@[simp] theorem State.finish_env (r : Result) (s : State) : (s.finish r).env = s.env := rfl
@[simp] theorem State.finish_role (r : Result) (s : State) : (s.finish r).role = s.role := rfl

/-! ### start -/

@[simp] theorem State.start_cfg (p : List MicroOp) (s : State) : (s.start p).cfg = s.cfg := rfl
@[simp] theorem State.start_boundPid (p : List MicroOp) (s : State) : (s.start p).boundPid = s.boundPid := rfl
@[simp] theorem State.start_cmd (p : List MicroOp) (s : State) : (s.start p).cmd = s.cmd := rfl
@[simp] theorem State.start_id (p : List MicroOp) (s : State) : (s.start p).id = s.id := rfl
@[simp] theorem State.start_len (p : List MicroOp) (s : State) : (s.start p).len = s.len := rfl
@[simp] theorem State.start_status (p : List MicroOp) (s : State) : (s.start p).status = statusByte true .noResult := rfl
@[simp] theorem State.start_txbuf (p : List MicroOp) (s : State) : (s.start p).txbuf = s.txbuf := rfl
@[simp] theorem State.start_rxbuf (p : List MicroOp) (s : State) : (s.start p).rxbuf = s.rxbuf := rfl
@[simp] theorem State.start_phase (p : List MicroOp) (s : State) : (s.start p).phase = 0#4 := rfl
@[simp] theorem State.start_prog (p : List MicroOp) (s : State) : (s.start p).prog = p := rfl
@[simp] theorem State.start_fail (p : List MicroOp) (s : State) : (s.start p).fail = false := rfl
@[simp] theorem State.start_stage (p : List MicroOp) (s : State) : (s.start p).stage = [] := rfl
@[simp] theorem State.start_baudSet (p : List MicroOp) (s : State) : (s.start p).baudSet = s.baudSet := rfl
@[simp] theorem State.start_modeSet (p : List MicroOp) (s : State) : (s.start p).modeSet = s.modeSet := rfl
@[simp] theorem State.start_hist (p : List MicroOp) (s : State) : (s.start p).hist = s.hist := rfl
@[simp] theorem State.start_env (p : List MicroOp) (s : State) : (s.start p).env = s.env := rfl
@[simp] theorem State.start_role (p : List MicroOp) (s : State) : (s.start p).role = s.role := rfl

end Sys2Proof.Machine
end

