-- ==== Sys2Proof/Laws/Ops.lean ====
section
/-! SUPPORT. What each shared operation can do, said once: STATUS, the ports' answers, acceptance, the register space, buffers, the micro-ops. -/

namespace Sys2Proof.Machine

/-! ### STATUS -/

theorem statusByte_getLsbD_busy (b : Bool) (r : Result) : (statusByte b r).getLsbD 7 = b := by
  cases b <;> cases r <;> rfl

@[simp] theorem statusByte_getElem_busy (b : Bool) (r : Result) : (statusByte b r)[7] = b := by
  cases b <;> cases r <;> rfl

@[simp] theorem statusByte_result (b : Bool) (r : Result) :
    (statusByte b r).extractLsb' 0 4 = resultCode r := by
  cases b <;> cases r <;> rfl

@[simp] theorem State.finish_busy (r : Result) (s : State) : (s.finish r).busy = false := by
  simp [State.busy]

@[simp] theorem State.start_busy (p : List MicroOp) (s : State) : (s.start p).busy = true := by
  simp [State.busy]

/-! ### Reset -/

@[simp] theorem State.resetWith_role (role : Role) (sid : Ident) : (State.resetWith role sid).role = role := by
  cases role <;> simp [State.role, State.resetWith, cfgOfRole]

@[simp] theorem State.resetWith_busy (role : Role) (sid : Ident) : (State.resetWith role sid).busy = false := by
  simp [State.busy, State.resetWith]

/-! ### The ports' answers -/

/-- A draw of `TxWrite`'s answer is bounded by the request and touches only what answers are left. -/
theorem State.drawTaken_spec (len : Nat) (s : State) :
    ∃ k e, s.drawTaken len = (k, s.setEnv e) ∧ k ≤ len ∧
      e.inputs = s.env.inputs ∧ e.reads = s.env.reads ∧ e.turns = s.env.turns := by
  unfold State.drawTaken drawFrom
  cases s.env.txAnswers <;> exact ⟨_, _, rfl, by omega, rfl, rfl, rfl⟩

/-- A draw of `RxRead`'s answer is bounded by the request and touches only what answers are left. -/
theorem State.drawRx_spec (n : Nat) (s : State) :
    ∃ rx e, s.drawRx n = (rx, s.setEnv e) ∧ rx.length ≤ n ∧
      e.inputs = s.env.inputs ∧ e.reads = s.env.reads ∧ e.turns = s.env.turns := by
  unfold State.drawRx drawFrom
  cases s.env.rxAnswers <;> exact ⟨_, _, rfl, by simp, rfl, rfl, rfl⟩

/-- A draw of `WakePulse`'s answer touches only what answers are left. -/
theorem State.drawWake_spec (s : State) :
    ∃ ok e, s.drawWake = (ok, s.setEnv e) ∧
      e.inputs = s.env.inputs ∧ e.reads = s.env.reads ∧ e.turns = s.env.turns := by
  unfold State.drawWake drawFrom
  cases s.env.wakeAnswers <;> exact ⟨_, _, rfl, rfl, rfl, rfl⟩

/-! ### Acceptance -/

/-- What a write of a valid command does (R46, R78): nothing while busy, a refusal for length, or a start. -/
theorem acceptCommand_cases {i : Instr} {b : Option Nat} {p : List MicroOp} {s t : State}
    (h : acceptCommand i b p s = .next t) :
    (s.busy = true ∧ t = s) ∨
    (s.busy = false ∧ s.lenExceeds b = true ∧ t = (s.setCmd (opcode i)).finish .payloadTooLarge) ∨
    (s.busy = false ∧ s.lenExceeds b = false ∧ t = (s.setCmd (opcode i)).start p) := by
  unfold acceptCommand at h
  cases hb : s.busy <;> cases hl : s.lenExceeds b <;> simp only [hb, hl] at h <;> cases h
  · exact .inr (.inr ⟨rfl, rfl, rfl⟩)
  · exact .inr (.inl ⟨rfl, rfl, rfl⟩)
  · exact .inl ⟨rfl, rfl⟩
  · exact .inl ⟨rfl, rfl⟩

@[simp] theorem State.lenExceeds_none (s : State) : s.lenExceeds none = false := rfl

theorem State.lenExceeds_some_false {b : Nat} {s : State} :
    s.lenExceeds (some b) = false ↔ s.len.toNat ≤ b := by
  unfold State.lenExceeds State.lenOperand; simp

theorem State.lenExceeds_some_true {b : Nat} {s : State} :
    s.lenExceeds (some b) = true ↔ b < s.len.toNat := by
  unfold State.lenExceeds State.lenOperand; simp

/-- Every command's meaning is the shared acceptance, with its bound (R64) and its program (R81). -/
theorem exec_eq_accept (i : Instr) (s : State) :
    exec i s = acceptCommand i (boundOf i) (programOf i s) s := by
  cases i <;> rfl

/-- What a write of a reserved command value does (R46, R98). -/
theorem acceptIllegal_cases {v : Byte} {s t : State} (h : acceptIllegal v s = .next t) :
    (s.busy = true ∧ t = s) ∨ (s.busy = false ∧ t = (s.setCmd v).finish .illegalCommand) := by
  unfold acceptIllegal at h
  cases hb : s.busy <;> simp only [hb] at h <;> cases h
  · exact .inr ⟨rfl, rfl⟩
  · exact .inl ⟨rfl, rfl⟩

/-! ### The register space -/

/-- What an idle write outside CMD stores (R41 to R43): ID, LEN, one TXBUF entry, or nothing. -/
theorem State.writeReg_cases (a : Addr) (v : Byte) (s : State) :
    (a = 0x03#6 ∧ s.writeReg a v = s.setId v) ∨
    (a = 0x04#6 ∧ s.writeReg a v = s.setLen v) ∨
    (∃ h : 0x10 ≤ a.toNat ∧ a.toNat < 0x20,
      s.writeReg a v = s.setTxbuf (s.txbuf.set (a.toNat - 0x10) v)) ∨
    (a ≠ 0x03#6 ∧ a ≠ 0x04#6 ∧ ¬(0x10 ≤ a.toNat ∧ a.toNat < 0x20) ∧ s.writeReg a v = s) := by
  unfold State.writeReg
  split
  · exact .inl ⟨by bv_omega, rfl⟩
  · exact .inr (.inl ⟨by bv_omega, rfl⟩)
  · split
    · exact .inr (.inr (.inl ⟨by assumption, rfl⟩))
    · exact .inr (.inr (.inr ⟨by bv_omega, by bv_omega, by assumption, rfl⟩))

/-- Everything a host write can do (R41, R45, R46, R78, R98). -/
theorem hostWrite_cases {a : Addr} {v : Byte} {s t : State} (h : hostWrite a v s = .next t) :
    t = s ∨
    (s.busy = false ∧ a = 0x02#6 ∧ ∃ i, decodeCommand v = .ok i ∧ exec i s = .next t) ∨
    (s.busy = false ∧ a = 0x02#6 ∧ (∀ i, decodeCommand v ≠ .ok i) ∧
      t = (s.setCmd v).finish .illegalCommand) ∨
    (s.busy = false ∧ a ≠ 0x02#6 ∧ t = s.writeReg a v) := by
  unfold hostWrite at h
  split at h
  · split at h
    · rename_i i hi
      by_cases hb : s.busy = true
      · rw [exec_eq_accept] at h
        rcases acceptCommand_cases h with ⟨_, h⟩ | ⟨h', _⟩ | ⟨h', _⟩
        · exact .inl h
        · simp [hb] at h'
        · simp [hb] at h'
      · exact .inr (.inl ⟨by simpa using hb, by assumption, i, hi, h⟩)
    · rename_i e he
      rcases acceptIllegal_cases h with ⟨_, h⟩ | ⟨hb, h⟩
      · exact .inl h
      · exact .inr (.inr (.inl ⟨hb, by assumption, by simp [he], h⟩))
  · split at h <;> cases h
    · exact .inl rfl
    · exact .inr (.inr (.inr ⟨by simpa using ‹¬s.busy = true›, by assumption, rfl⟩))

/-- No host write stops the machine. -/
theorem hostWrite_next (a : Addr) (v : Byte) (s : State) : ∃ t, hostWrite a v s = .next t := by
  unfold hostWrite
  split
  · split
    · rw [exec_eq_accept]; unfold acceptCommand
      split
      · exact ⟨_, rfl⟩
      · split <;> exact ⟨_, rfl⟩
    · unfold acceptIllegal
      split <;> exact ⟨_, rfl⟩
  · split <;> exact ⟨_, rfl⟩

/-! ### Buffers -/

/-- Storing a byte list from index `i` on changes exactly the entries it covers. -/
theorem storeBytes_get (data : List Byte) (buf : Vector Byte 16) (i j : Nat) (hj : j < 16) :
    (storeBytes buf i data)[j] = if i ≤ j ∧ j < i + data.length then data.getD (j - i) 0x00#8 else buf[j] := by
  induction data generalizing buf i with
  | nil => simp [storeBytes]
  | cons b bs ih =>
    simp only [storeBytes, ih, List.length_cons]
    by_cases h1 : i + 1 ≤ j ∧ j < i + 1 + bs.length
    · have hsub : j - i = (j - (i + 1)) + 1 := by omega
      rw [if_pos h1, if_pos (by omega), hsub, List.getD_cons_succ]
    · rw [if_neg h1, Vector.getElem_setIfInBounds]
      by_cases h2 : i = j
      · subst h2; simp
      · rw [if_neg h2, if_neg (by omega)]

/-! ### The micro-ops -/

/-- What a WRITE does (R80): nothing after a failure; else one event with an answer within the request, and FAIL if it was short. -/
theorem writeStep_cases (bs : List Byte) (s : State) :
    (s.fail = true ∧ writeStep bs s = s) ∨
    (s.fail = false ∧ ∃ k e, k ≤ bs.length ∧ e.inputs = s.env.inputs ∧ e.reads = s.env.reads ∧
      e.turns = s.env.turns ∧
      writeStep bs s = ((s.setEnv e).emit (.txWrite bs k)).setFail (k != bs.length)) := by
  unfold writeStep
  obtain ⟨k, e, hd, hk, hi, hr, ht⟩ := s.drawTaken_spec bs.length
  cases hf : s.fail
  · exact .inr ⟨rfl, k, e, hk, hi, hr, ht, by simp [hd]⟩
  · exact .inl ⟨rfl, by simp⟩

/-- What a READ does (R80): one event with an answer within the request, which becomes STAGE. -/
theorem readStep_cases (m : Nat) (s : State) :
    ∃ rx e, rx.length ≤ m ∧ e.inputs = s.env.inputs ∧ e.reads = s.env.reads ∧ e.turns = s.env.turns ∧
      readStep m s = ((s.setEnv e).emit (.rxRead m rx)).setStage rx := by
  obtain ⟨rx, e, hd, hk, hi, hr, ht⟩ := s.drawRx_spec m
  exact ⟨rx, e, hk, hi, hr, ht, by simp [readStep, hd]⟩

/-- What a WAKEP does (R80): one event, and FAIL if the pulse failed. -/
theorem wakeStep_cases (s : State) :
    ∃ ok e, e.inputs = s.env.inputs ∧ e.reads = s.env.reads ∧ e.turns = s.env.turns ∧
      wakeStep s = ((s.setEnv e).emit (.wakePulse ok)).setFail (s.fail || !ok) := by
  obtain ⟨ok, e, hd, hi, hr, ht⟩ := s.drawWake_spec
  exact ⟨ok, e, hi, hr, ht, by simp [wakeStep, hd]⟩

/-- FINISH_TX writes STATUS alone, with OK or TRANSPORT_ERROR (R80). -/
theorem finishTxStep_cases (s : State) :
    (s.fail = true ∧ finishTxStep s = s.finish .transportError) ∨
    (s.fail = false ∧ finishTxStep s = s.finish .ok) := by
  unfold finishTxStep
  cases s.fail
  · exact .inr ⟨rfl, rfl⟩
  · exact .inl ⟨rfl, rfl⟩

/-- FINISH_RXFRAME writes STATUS alone with an error, or RXBUF and STATUS with OK (R89, R92, R102). -/
theorem finishRxFrameStep_cases (n : Nat) (s : State) :
    (∃ r, r ≠ .ok ∧ r ≠ .noResult ∧ finishRxFrameStep n s = s.finish r) ∨
    (n + 3 ≤ s.stage.length ∧
      finishRxFrameStep n s = (s.setRxbuf (storeBytes s.rxbuf 0 (slice s.stage 2 (n + 1)))).finish .ok) := by
  unfold finishRxFrameStep
  split
  · exact .inl ⟨_, by decide, by decide, rfl⟩
  · split
    · exact .inl ⟨_, by decide, by decide, rfl⟩
    · split
      · exact .inl ⟨_, by decide, by decide, rfl⟩
      · exact .inr ⟨by omega, rfl⟩

/-- FINISH_RXRAW writes STATUS alone with an error, or RXBUF and STATUS with OK (R96). -/
theorem finishRxRawStep_cases (n : Nat) (s : State) :
    (s.stage.length < n ∧ finishRxRawStep n s = s.finish .transportError) ∨
    (n ≤ s.stage.length ∧
      finishRxRawStep n s = (s.setRxbuf (storeBytes s.rxbuf 0 (s.stage.take n))).finish .ok) := by
  unfold finishRxRawStep
  split
  · exact .inl ⟨by assumption, rfl⟩
  · exact .inr ⟨by omega, rfl⟩

/-- What every micro-op leaves alone: the configuration, the command's operands, and the program with its position (R27, R30, R102). -/
structure SameOperands (s t : State) : Prop where
  cfg : t.cfg = s.cfg
  boundPid : t.boundPid = s.boundPid
  cmd : t.cmd = s.cmd
  id : t.id = s.id
  len : t.len = s.len
  txbuf : t.txbuf = s.txbuf
  prog : t.prog = s.prog
  phase : t.phase = s.phase

theorem execMicro_sameOperands (u : MicroOp) (s : State) : SameOperands s (execMicro u s) := by
  cases u with
  | mode m => constructor <;> rfl
  | delay t => constructor <;> rfl
  | baud r => constructor <;> rfl
  | write bs =>
    rcases writeStep_cases bs s with ⟨_, h⟩ | ⟨_, k, e, _, _, _, _, h⟩ <;>
      simp only [execMicro, h] <;> constructor <;> rfl
  | read m =>
    obtain ⟨rx, e, _, _, _, _, h⟩ := readStep_cases m s
    simp only [execMicro, h]; constructor <;> rfl
  | wakep =>
    obtain ⟨ok, e, _, _, _, h⟩ := wakeStep_cases s
    simp only [execMicro, h]; constructor <;> rfl
  | finishTx =>
    rcases finishTxStep_cases s with ⟨_, h⟩ | ⟨_, h⟩ <;>
      simp only [execMicro, h] <;> constructor <;> rfl
  | finishRxFrame n =>
    rcases finishRxFrameStep_cases n s with ⟨_, _, _, h⟩ | ⟨_, h⟩ <;>
      simp only [execMicro, h] <;> constructor <;> rfl
  | finishRxRaw n =>
    rcases finishRxRawStep_cases n s with ⟨_, h⟩ | ⟨_, h⟩ <;>
      simp only [execMicro, h] <;> constructor <;> rfl

/-- A micro-op appends at most one event to HIST (R51). -/
theorem execMicro_hist (u : MicroOp) (s : State) :
    (execMicro u s).hist = s.hist ∨ ∃ e, (execMicro u s).hist = s.hist ++ [e] := by
  cases u with
  | mode m => exact .inr ⟨_, rfl⟩
  | delay t => exact .inr ⟨_, rfl⟩
  | baud r => exact .inr ⟨_, rfl⟩
  | write bs =>
    rcases writeStep_cases bs s with ⟨_, h⟩ | ⟨_, k, e, _, _, _, _, h⟩
    · exact .inl (by simp [execMicro, h])
    · exact .inr ⟨_, by simp only [execMicro, h]; rfl⟩
  | read m =>
    obtain ⟨rx, e, _, _, _, _, h⟩ := readStep_cases m s
    exact .inr ⟨_, by simp only [execMicro, h]; rfl⟩
  | wakep =>
    obtain ⟨ok, e, _, _, _, h⟩ := wakeStep_cases s
    exact .inr ⟨_, by simp only [execMicro, h]; rfl⟩
  | finishTx =>
    rcases finishTxStep_cases s with ⟨_, h⟩ | ⟨_, h⟩ <;> exact .inl (by simp [execMicro, h])
  | finishRxFrame n =>
    rcases finishRxFrameStep_cases n s with ⟨_, _, _, h⟩ | ⟨_, h⟩ <;> exact .inl (by simp [execMicro, h])
  | finishRxRaw n =>
    rcases finishRxRawStep_cases n s with ⟨_, h⟩ | ⟨_, h⟩ <;> exact .inl (by simp [execMicro, h])

/-- A FINISH ends the command; any other micro-op leaves STATUS alone (R26). -/
theorem execMicro_status (u : MicroOp) (s : State) :
    (u.isFinish = false ∧ (execMicro u s).status = s.status) ∨
    (u.isFinish = true ∧ ∃ r, r ≠ .noResult ∧ (execMicro u s).status = statusByte false r) := by
  cases u with
  | mode m => exact .inl ⟨rfl, rfl⟩
  | delay t => exact .inl ⟨rfl, rfl⟩
  | baud r => exact .inl ⟨rfl, rfl⟩
  | write bs =>
    rcases writeStep_cases bs s with ⟨_, h⟩ | ⟨_, k, e, _, _, _, _, h⟩ <;>
      exact .inl ⟨rfl, by simp [execMicro, h]⟩
  | read m =>
    obtain ⟨rx, e, _, _, _, _, h⟩ := readStep_cases m s
    exact .inl ⟨rfl, by simp [execMicro, h]⟩
  | wakep =>
    obtain ⟨ok, e, _, _, _, h⟩ := wakeStep_cases s
    exact .inl ⟨rfl, by simp [execMicro, h]⟩
  | finishTx =>
    rcases finishTxStep_cases s with ⟨_, h⟩ | ⟨_, h⟩ <;>
      exact .inr ⟨rfl, _, by simp only [execMicro, h]; exact ⟨by decide, rfl⟩⟩
  | finishRxFrame n =>
    rcases finishRxFrameStep_cases n s with ⟨r, _, hr, h⟩ | ⟨_, h⟩
    · exact .inr ⟨rfl, r, hr, by simp [execMicro, h]⟩
    · exact .inr ⟨rfl, .ok, by decide, by simp [execMicro, h]⟩
  | finishRxRaw n =>
    rcases finishRxRawStep_cases n s with ⟨_, h⟩ | ⟨_, h⟩ <;>
      exact .inr ⟨rfl, _, by simp only [execMicro, h]; exact ⟨by decide, rfl⟩⟩

end Sys2Proof.Machine
end

