-- ==== Sys2Proof/Laws/PerInstr.lean ====
section
/-! SUPPORT. Statements made once for each constructor of Instr. -/

namespace Sys2Proof.Laws.RoundTrip

/-- A command is well formed, is encoded in one byte (R68), and that byte decodes to it, whatever follows. -/
def Statement (i : Instr) : Prop :=
  i.wf = true ∧ (encode i).length = 1 ∧ ∀ rest, decode (encode i ++ rest) = .ok (i, rest)

theorem txFrame : Statement .txFrame := ⟨rfl, rfl, fun _ => rfl⟩

theorem txHeader : Statement .txHeader := ⟨rfl, rfl, fun _ => rfl⟩

theorem txResponse : Statement .txResponse := ⟨rfl, rfl, fun _ => rfl⟩

theorem rxFrame : Statement .rxFrame := ⟨rfl, rfl, fun _ => rfl⟩

theorem txRaw : Statement .txRaw := ⟨rfl, rfl, fun _ => rfl⟩

theorem rxRaw : Statement .rxRaw := ⟨rfl, rfl, fun _ => rfl⟩

theorem wake : Statement .wake := ⟨rfl, rfl, fun _ => rfl⟩

end Sys2Proof.Laws.RoundTrip
end

