-- ==== Sys2Proof/Laws/Step.lean ====
section
/-! SUPPORT. What one step can do: the inversion lemmas of the engine's step, the outside's step and the machine's step. -/

namespace Sys2Proof.Machine

/-- What the engine's step does (R79). -/
theorem engineStep_cases {s t : State} (h : engineStep s = .next t) :
    ∃ u, s.currentOp = some u ∧
      ((u.isFinish = true ∧ t = execMicro u s) ∨ (u.isFinish = false ∧ t = (execMicro u s).nextPhase)) := by
  unfold engineStep at h
  split at h
  · cases h
  · rename_i u hu
    cases h
    refine ⟨u, hu, ?_⟩
    cases hf : u.isFinish
    · exact .inr ⟨rfl, by simp⟩
    · exact .inl ⟨rfl, by simp⟩

/-- What the outside's action does, when it is no reset: it changes the outside alone, or it is an idle write. -/
theorem inputStep_cases {i : Input} {s t : State} (h : inputStep i s = .next t) :
    (∃ role sid, i = .reset role sid ∧ t = s.resetBlock role sid) ∨
    (∃ e, t = s.setEnv e) ∨
    (s.busy = false ∧ ∃ a v, i = .write a v ∧ hostWrite a v s = .next t) := by
  cases i with
  | read a => cases h; exact .inr (.inl ⟨_, rfl⟩)
  | write a v =>
    by_cases hb : s.busy = true
    · rcases hostWrite_cases h with h | ⟨h', _⟩ | ⟨h', _⟩ | ⟨h', _⟩
      · exact .inr (.inl ⟨s.env, by rw [h]; rfl⟩)
      · simp [hb] at h'
      · simp [hb] at h'
      · simp [hb] at h'
    · exact .inr (.inr ⟨by simpa using hb, a, v, rfl, h⟩)
  | poll =>
    simp only [inputStep, hostPoll] at h
    split at h <;> cases h <;> exact .inr (.inl ⟨_, rfl⟩)
  | readRxIfOk n =>
    simp only [inputStep, hostReadRxIfOk] at h
    split at h <;> cases h
    · exact .inr (.inl ⟨_, rfl⟩)
    · exact .inr (.inl ⟨s.env, rfl⟩)
  | otherWidth n => cases h
  | reset role sid => cases h; exact .inl ⟨role, sid, rfl, rfl⟩

/-- Where an outside's action moves next, the step is what that action does. -/
theorem step_of_takes {s u : State} {i : Input} (h : Takes s i u) : step s = inputStep i u := by
  obtain ⟨rest, hi, ⟨hb, rfl⟩ | ⟨hb, ts, ht, rfl⟩ | ⟨hb, ht, hf, rfl⟩⟩ := h
  · simp [step, blockStep, hi, hb, State.setInputs, State.setEnv]
  · simp [step, blockStep, hi, hb, State.drawTurn, drawFrom, ht, State.setInputs, State.setEnv]
  · simp [step, blockStep, hi, hb, State.drawTurn, drawFrom, ht, hf, State.setInputs, State.setEnv]

/-- Where the engine moves next, the step is its step. -/
theorem step_of_engineMoves {s u : State} (h : EngineMoves s u) : step s = engineStep u := by
  obtain ⟨hb, ⟨hi, rfl⟩ | ⟨hi, ts, ht, rfl⟩ | ⟨hi, ht, hf, rfl⟩⟩ := h
  · simp [step, blockStep, hi, hb]
  · cases hin : s.env.inputs with
    | nil => exact absurd hin hi
    | cons i rest =>
      simp only [step, blockStep, hin, hb, State.drawTurn, drawFrom, ht]
      rfl
  · cases hin : s.env.inputs with
    | nil => exact absurd hin hi
    | cons i rest =>
      simp only [step, blockStep, hin, hb, State.drawTurn, drawFrom, ht, hf]
      rfl

/-- In every state exactly one of three moves comes next: an action of the outside, the engine's micro-op, or waiting. -/
theorem moves_total (s : State) :
    (∃ i u, Takes s i u) ∨ (∃ u, EngineMoves s u) ∨ (s.env.inputs = [] ∧ s.busy = false) := by
  cases hin : s.env.inputs with
  | nil =>
    cases hb : s.busy
    · exact .inr (.inr ⟨rfl, rfl⟩)
    · exact .inr (.inl ⟨s, hb, .inl ⟨hin, rfl⟩⟩)
  | cons i rest =>
    cases hb : s.busy
    · exact .inl ⟨i, _, rest, hin, .inl ⟨hb, rfl⟩⟩
    · cases ht : s.env.turns with
      | nil =>
        cases hf : Config.freeTurn s.env.draws
        · exact .inl ⟨i, _, rest, hin, .inr (.inr ⟨hb, ht, hf, rfl⟩)⟩
        · exact .inr (.inl ⟨_, hb, .inr (.inr ⟨by simp [hin], ht, hf, rfl⟩)⟩)
      | cons w ts =>
        cases w
        · exact .inl ⟨i, _, rest, hin, .inr (.inl ⟨hb, ts, ht, rfl⟩)⟩
        · exact .inr (.inl ⟨_, hb, .inr (.inl ⟨by simp [hin], ts, ht, rfl⟩)⟩)

/-- An action taken off what is pending leaves the block as it was. -/
theorem Takes.eq_setEnv {s u : State} {i : Input} (h : Takes s i u) : u = s.setEnv u.env := by
  obtain ⟨rest, _, ⟨_, rfl⟩ | ⟨_, ts, _, rfl⟩ | ⟨_, _, _, rfl⟩⟩ := h <;> rfl

/-- A turn given to the engine leaves the block as it was. -/
theorem EngineMoves.eq_setEnv {s u : State} (h : EngineMoves s u) : u = s.setEnv u.env := by
  obtain ⟨_, ⟨_, rfl⟩ | ⟨_, ts, _, rfl⟩ | ⟨_, _, _, rfl⟩⟩ := h <;> rfl

/-- Everything a step can do, when it answers a next state. -/
theorem step_cases {s t : State} (h : step s = .next t) :
    (s.env.inputs = [] ∧ s.busy = false ∧ t = s) ∨
    (∃ u, EngineMoves s u ∧ engineStep u = .next t) ∨
    (∃ i u, Takes s i u ∧ inputStep i u = .next t) := by
  rcases moves_total s with ⟨i, u, hu⟩ | ⟨u, hu⟩ | ⟨hin, hb⟩
  · exact .inr (.inr ⟨i, u, hu, by rw [← step_of_takes hu, h]⟩)
  · exact .inr (.inl ⟨u, hu, by rw [← step_of_engineMoves hu, h]⟩)
  · refine .inl ⟨hin, hb, ?_⟩
    simp only [step, blockStep, hin, hb] at h
    cases h; rfl

/-! ### Runs -/

/-- No step at all. -/
theorem run_zero (s : State) : runSteps 0 s = .next s := rfl

/-- The first step of a run, where it answers a next state. -/
theorem run_succ {s t : State} (k : Nat) (h : step s = .next t) :
    runSteps (k + 1) s = runSteps k t := by
  have hs : Sys2Proof.core.step s = .next t := h
  simp only [runSteps, Host.Core.run, hs]
  rfl

/-- A running command with nothing else pending takes its next micro-op. -/
theorem step_alone {s : State} {u : MicroOp} (hb : s.busy = true) (hi : s.env.inputs = [])
    (hu : s.currentOp = some u) :
    step s = .next (if u.isFinish then execMicro u s else (execMicro u s).nextPhase) := by
  rw [step_of_engineMoves ⟨hb, .inl ⟨hi, rfl⟩⟩]
  simp only [engineStep, hu]

end Sys2Proof.Machine
end

