-- ==== Sys2Proof/Tests/Slice0.lean ====
section
/-! SUPPORT. Tests: expected values from spec/ (30_encoding.md, 95_test_vectors.md or hand calculation), the refusals of each
well-formedness check, and a witness for the hypotheses of each obligation. -/

namespace Sys2Proof.Tests

open Sys2Proof.Machine

/-! ### States to test on -/

/-- A master right after reset (95 section 2.12a). -/
def m0 : State := State.resetWith .master 0x00#6

/-- A slave bound to 0x05 right after reset (95 section 2.12b). -/
def slave05 : State := State.resetWith .slave 0x05#6

/-- A slave bound to 0x23 right after reset. -/
def slave23 : State := State.resetWith .slave 0x23#6

/-- The same block with LEN and the first entries of TXBUF written. -/
def withPayload (s : State) (p : List Byte) : State :=
  { s with len := BitVec.ofNat 8 p.length, txbuf := storeBytes s.txbuf 0 p }

/-- The source's scenario (95 section 1.1): identifier 0x23, payload [31, 255, 0, 0, 3]. -/
def scenario : State := withPayload { m0 with id := 0x23#8 } [31#8, 255#8, 0#8, 0#8, 3#8]

/-- The block with a receive finish due: STAGE holds `b`, every RXBUF entry is 0xEE (95 section 2.7). -/
def received (s : State) (b : List Byte) : State :=
  { s with stage := b, rxbuf := Vector.replicate 16 0xEE#8 }

/-- The block with one input pending. -/
def pending (s : State) (i : Input) : State := { s with env := { s.env with inputs := [i] } }

/-- A master inside the break of a TX_HEADER with ID 0: after `SetBaud(BREAK_BAUD)`. -/
def inBreak : State :=
  { (m0.setCmd 0x02#8).start (txHeaderProgram 0x00#6) with
    phase := 3#4, baudSet := .breakRate, modeSet := .known .normal }

/-- A master at the finish of an RX_RAW of one byte. -/
def atRawFinish : State :=
  { ({ m0 with len := 0x01#8 }.setCmd 0x06#8).start (rxRawProgram 1) with phase := 1#4, stage := [0x77#8] }

/-! ### Well-formedness refuses -/

theorem test_wf_instr : Instr.wf .wake = true := rfl

theorem test_wf_write_too_long : MicroOp.wf (.write (List.replicate 17 0x00#8)) = false := by decide

theorem test_wf_read_too_long : MicroOp.wf (.read 17) = false := by decide

theorem test_wf_finish_frame_too_long : MicroOp.wf (.finishRxFrame 9) = false := by decide

theorem test_wf_finish_raw_too_long : MicroOp.wf (.finishRxRaw 17) = false := by decide

theorem test_wf_program_empty : programWf [] = false := by decide

theorem test_wf_program_no_finish : programWf [.wakep] = false := by decide

theorem test_wf_program_early_finish : programWf [.finishTx, .finishTx] = false := by decide

theorem test_wf_program_ten : programWf (List.replicate 9 .wakep ++ [.finishTx]) = false := by decide

theorem test_wf_program_bad_op : programWf [.read 17, .finishTx] = false := by decide

theorem test_wf_program_good : programWf [.wakep, .finishTx] = true := by decide

theorem test_wf_width_one : Input.wf (.otherWidth 1) = false := by decide

theorem test_wf_buffer_read : Input.wf (.readRxIfOk 17) = false := by decide

theorem test_wf_call_frame : HostCall.wf (.transmitFrame 0x23#8 (List.replicate 17 0x00#8)) = false := by decide

theorem test_wf_call_response : HostCall.wf (.transmitResponse (List.replicate 17 0x00#8)) = false := by decide

theorem test_wf_call_raw : HostCall.wf (.transmitRaw (List.replicate 17 0x00#8)) = false := by decide

/-! ### Decoding (30_encoding.md R64, R67; the bits of opcode_table.json) -/

theorem test_decode_tx_frame : decode [0b00000001#8] = .ok (.txFrame, []) := rfl

theorem test_decode_tx_header : decode [0b00000010#8] = .ok (.txHeader, []) := rfl

theorem test_decode_tx_response : decode [0b00000011#8] = .ok (.txResponse, []) := rfl

theorem test_decode_rx_frame : decode [0b00000100#8] = .ok (.rxFrame, []) := rfl

theorem test_decode_tx_raw : decode [0b00000101#8] = .ok (.txRaw, []) := rfl

theorem test_decode_rx_raw : decode [0b00000110#8] = .ok (.rxRaw, []) := rfl

theorem test_decode_wake : decode [0b00000111#8] = .ok (.wake, []) := rfl

theorem test_decode_zero : decode [0x00#8] = .error (.reservedCommand 0x00#8) := rfl

theorem test_decode_eight : decode [0x08#8] = .error (.reservedCommand 0x08#8) := rfl

theorem test_decode_ff : decode [0xFF#8] = .error (.reservedCommand 0xFF#8) := rfl

theorem test_decode_nothing : decode [] = .error .noByte := rfl

theorem test_table_word : decodeTableWord 8 4 = some .rxFrame ∧ decodeTableWord 8 8 = none := ⟨rfl, rfl⟩

/-- A placed word is the very next step's command, also from the reset state of this instance. -/
theorem test_fetch_from_reset :
    step (State.reset.withFetchWord 8 7) = exec .wake State.reset := rfl

/-! ### Frame functions (95 sections 1.3, 2.2, 2.3) -/

theorem test_pid_23 : pid 0x23#6 = 0xA3#8 := by decide

theorem test_pid_3f : pid 0x3F#6 = 0xBF#8 := by decide

theorem test_checksum_i : checksum [1#8, 2#8, 3#8, 4#8, 5#8, 6#8, 7#8, 8#8] = 0xDB#8 := by decide

theorem test_checksum_m :
    checksum [0x10#8, 0x20#8, 0x30#8, 0x40#8, 0x50#8, 0x60#8, 0x70#8, 0x80#8] = 0xBF#8 := by decide

theorem test_checksum_ok_e : checksumOk (List.replicate 8 0xFF#8) 0x07#8 = true := by decide

/-! ### The register space (95 section 2.11) -/

/-- A block with a different byte in every register, to see each address. -/
def marked : State :=
  { m0 with
    cfg := 0xFF#8, boundPid := 0x11#8, cmd := 0x22#8, id := 0xFF#8, len := 0x44#8, status := 0x7F#8,
    txbuf := storeBytes m0.txbuf 0 ((List.range 16).map fun n => BitVec.ofNat 8 (0xA0 + n)),
    rxbuf := storeBytes m0.rxbuf 0 ((List.range 16).map fun n => BitVec.ofNat 8 (0xB0 + n)) }

theorem test_read_low :
    [0x00#6, 0x01#6, 0x02#6, 0x03#6, 0x04#6, 0x05#6, 0x06#6, 0x0F#6].map marked.readReg =
      [0x01#8, 0x11#8, 0x22#8, 0x3F#8, 0x44#8, 0x0F#8, 0x00#8, 0x00#8] := by decide

theorem test_read_buffers :
    [0x10#6, 0x1F#6, 0x20#6, 0x2F#6, 0x30#6, 0x3F#6].map marked.readReg =
      [0xA0#8, 0xAF#8, 0xB0#8, 0xBF#8, 0x00#8, 0x00#8] := by decide

theorem test_write_id : (m0.writeReg 0x03#6 0xA3#8).readReg 0x03#6 = 0x23#8 := by decide

theorem test_write_status : (m0.writeReg 0x05#6 0x01#8).readReg 0x05#6 = 0x00#8 := by decide

theorem test_write_rxbuf : (m0.writeReg 0x20#6 0x55#8).readReg 0x20#6 = 0x00#8 := by decide

theorem test_write_reserved : (m0.writeReg 0x08#6 0x12#8).readReg 0x08#6 = 0x00#8 := by decide

theorem test_write_txbuf_top : (m0.writeReg 0x1F#6 0x99#8).readReg 0x1F#6 = 0x99#8 := by decide

theorem test_slave_cfg : slave05.readReg 0x00#6 = 0x01#8 ∧ slave05.readReg 0x01#6 = 0x85#8 := by decide

theorem test_poll_busy_stays : (hostPoll inBreak).env.inputs = [.poll] := by decide

theorem test_poll_idle_ends : (hostPoll m0).env.inputs = [] ∧ (hostPoll m0).env.reads = [(0x05#6, 0x00#8)] := by decide

theorem test_reads_when_ok :
    (hostReadRxIfOk 2 { m0 with env := { m0.env with reads := [(0x05#6, 0x01#8)] } }).env.inputs =
      [.read 0x20#6, .read 0x21#6] := by decide

theorem test_transaction_word : encodeTransaction (.write 0x10#6 0x1F#8) = some 0x901F#16 := by decide

theorem test_transaction_bit14 : decodeTransaction 0xC201#16 = none := by decide

/-- R69's expansion of `transmit_response [0x01, 0x02]`. -/
theorem test_call_response :
    expandCall (.transmitResponse [0x01#8, 0x02#8]) =
      [.write 0x04#6 0x02#8, .write 0x10#6 0x01#8, .write 0x11#6 0x02#8, .write 0x02#6 0x03#8, .poll] := by decide

/-! ### One step of each command (95 sections 2.4 to 2.11) -/

/-- Vector 1.1a: the frame write of the accepted program. -/
theorem test_tx_frame_bytes :
    (txFrameProgram scenario.identOperand scenario.payload)[5]? =
      some (.write [0x55#8, 0xA3#8, 0x1F#8, 0xFF#8, 0x00#8, 0x00#8, 0x03#8, 0xDE#8]) := by decide

/-- Vector 2.4f. -/
theorem test_tx_frame_nine : ∃ t, exec .txFrame { m0 with len := 0x09#8 } = .next t ∧ t.status = 0x05#8 ∧ t.hist = [] :=
  ⟨_, rfl, rfl, rfl⟩

/-- Vector 2.5a: LEN 200 is ignored. -/
theorem test_tx_header_len_ignored :
    ∃ t, exec .txHeader { m0 with len := 200#8 } = .next t ∧ t.status = 0x80#8 ∧
      t.prog[5]? = some (.write [0x55#8, 0x80#8]) :=
  ⟨_, rfl, rfl, rfl⟩

/-- Vector 2.6d. -/
theorem test_tx_response_ff :
    (txResponseProgram (withPayload m0 (List.replicate 8 0xFF#8)).payload)[2]? =
      some (.write (List.replicate 8 0xFF#8 ++ [0x07#8])) := by decide

/-- Vector 2.6e. -/
theorem test_tx_response_nine : ∃ t, exec .txResponse { m0 with len := 0x09#8 } = .next t ∧ t.status = 0x05#8 :=
  ⟨_, rfl, rfl⟩

/-- R88: LEN 5 asks for 8 bytes. -/
theorem test_rx_frame_reads :
    ∃ t, exec .rxFrame { slave23 with len := 0x05#8 } = .next t ∧ t.prog = [.read 8, .finishRxFrame 5] :=
  ⟨_, rfl, rfl⟩

/-- Vector 2.7m. -/
theorem test_rx_frame_nine : ∃ t, exec .rxFrame { m0 with len := 0x09#8 } = .next t ∧ t.status = 0x05#8 := ⟨_, rfl, rfl⟩

/-- Vector 1.1b: the bytes go out unchanged. -/
theorem test_tx_raw_bytes :
    (txRawProgram (withPayload m0 [0x55#8, 0x23#8, 31#8, 255#8, 0#8, 0#8, 3#8, 222#8]).payload)[5]? =
      some (.write [0x55#8, 0x23#8, 0x1F#8, 0xFF#8, 0x00#8, 0x00#8, 0x03#8, 0xDE#8]) := by decide

/-- Vectors 2.8c and 2.8d: the bound is 16. -/
theorem test_tx_raw_bound :
    (∃ t, exec .txRaw { m0 with len := 16#8 } = .next t ∧ t.status = 0x80#8) ∧
    (∃ t, exec .txRaw { m0 with len := 17#8 } = .next t ∧ t.status = 0x05#8) :=
  ⟨⟨_, rfl, rfl⟩, ⟨_, rfl, rfl⟩⟩

/-- Vector 2.9e. -/
theorem test_rx_raw_seventeen : ∃ t, exec .rxRaw { m0 with len := 17#8 } = .next t ∧ t.status = 0x05#8 := ⟨_, rfl, rfl⟩

/-- Vector 2.9d: no identifier check on a raw read. -/
theorem test_rx_raw_slave :
    (finishRxRawStep 3 (received slave05 [0x55#8, 0x05#8, 0x00#8])).status = 0x01#8 := by decide

/-- Vector 2.10b. -/
theorem test_wake_fails :
    (wakeStep { m0 with env := { m0.env with wakeAnswers := [false] } }).fail = true ∧
    (wakeStep { m0 with env := { m0.env with wakeAnswers := [false] } }).hist = [.wakePulse false] := by decide

/-- Vector 2.11c: ILLEGAL_COMMAND before PAYLOAD_TOO_LARGE. -/
theorem test_illegal_command :
    ∃ t, hostWrite 0x02#6 0xFF#8 { m0 with len := 200#8 } = .next t ∧ t.status = 0x06#8 ∧ t.cmd = 0xFF#8 :=
  ⟨_, rfl, rfl, rfl⟩

/-- Vector 2.4c: three of eight bytes taken. -/
theorem test_write_short :
    (writeStep [1#8, 2#8, 3#8, 4#8] { m0 with env := { m0.env with txAnswers := [3] } }).fail = true := by decide

/-- Vector 2.4b: nothing is written after a failed write. -/
theorem test_write_after_failure : (writeStep [1#8] { m0 with fail := true }).hist = [] := by decide

/-- Vector 2.7a. -/
theorem test_rx_finish_ok :
    (finishRxFrameStep 5 (received slave23 [0x55#8, 0xA3#8, 31#8, 255#8, 0#8, 0#8, 3#8, 222#8])).status = 0x01#8 ∧
    (finishRxFrameStep 5 (received slave23 [0x55#8, 0xA3#8, 31#8, 255#8, 0#8, 0#8, 3#8, 222#8])).rxbuf.toList =
      [0x1F#8, 0xFF#8, 0x00#8, 0x00#8, 0x03#8] ++ List.replicate 11 0xEE#8 := by decide

/-- Vectors 2.7c, 2.7e, 2.7f, 2.7i, 2.7j, 2.7k, 2.7n. -/
theorem test_rx_finish_results :
    (finishRxFrameStep 5 (received slave23 [0x55#8, 0xA3#8, 31#8, 255#8, 0#8, 0#8, 3#8])).status = 0x02#8 ∧
    (finishRxFrameStep 5 (received slave23 [0x55#8, 0xA3#8, 31#8, 255#8, 0#8, 0#8, 3#8, 0xDF#8])).status = 0x03#8 ∧
    (finishRxFrameStep 0 (received slave05 [0x55#8, 0x05#8, 0xFF#8])).status = 0x04#8 ∧
    (finishRxFrameStep 5 (received slave23 [0x55#8, 0x23#8, 31#8, 255#8, 0#8, 0#8, 3#8, 0xDF#8])).status = 0x04#8 ∧
    (finishRxFrameStep 5 (received m0 [0x55#8, 0x23#8, 31#8, 255#8, 0#8, 0#8, 3#8, 222#8])).status = 0x04#8 ∧
    (finishRxFrameStep 1 (received m0 [0x00#8, 0x80#8, 0x07#8, 0xF8#8])).status = 0x01#8 ∧
    (finishRxFrameStep 5 (received slave23 [0x55#8, 0xA3#8, 31#8, 255#8, 0#8, 0#8, 3#8, 221#8])).status = 0x03#8 := by
  decide

/-- Vector 2.12e: a reset inside a break. -/
theorem test_reset_in_break :
    (inBreak.resetBlock .slave 0x05#6).status = 0x00#8 ∧ (inBreak.resetBlock .slave 0x05#6).boundPid = 0x85#8 ∧
    (inBreak.resetBlock .slave 0x05#6).baudSet = .nominal ∧ (inBreak.resetBlock .slave 0x05#6).hist = [] := by decide

/-- R47: the stream carries only the bytes taken, each with the rate in force. -/
theorem test_tx_stream :
    txStream [.txWrite [9#8] 1, .setBaud 7, .txWrite [1#8, 2#8] 1, .setBaud 8, .txWrite [3#8] 1] =
      [(none, 9#8), (some 7, 1#8), (some 8, 3#8)] := by decide

/-- R80: the WRITEs of TX_HEADER's program for identifier 0x23, and the TxWrites of a failed break (vector 2.5's shape). -/
theorem test_writes :
    programWrites (txHeaderProgram 0x23#6) = [[0x00#8], [0x55#8, 0xA3#8]] ∧
    txWrites [.setBaud 1, .txWrite [0x00#8] 0, .setBaud 2] = [([0x00#8], 0)] := by decide

/-- R48: the receive stream in arrival order. -/
theorem test_rx_stream : rxStream [.rxRead 2 [1#8], .wakePulse true, .rxRead 2 [2#8, 3#8]] = [1#8, 2#8, 3#8] := by decide

/-! ### Witnesses: concrete states and operands that meet the hypotheses of the obligations -/

theorem takes_idle (s : State) (i : Input) (hb : s.busy = false) (hi : s.env.inputs = []) : Takes (pending s i) i s := by
  refine ⟨[], rfl, .inl ⟨hb, ?_⟩⟩
  have : s = { s with env := { s.env with inputs := [] } } := by rw [← hi]
  exact this

theorem takes_busy (s : State) (i : Input) (ts : List Agent) (hb : s.busy = true) (hi : s.env.inputs = [])
    (ht : s.env.turns = ts) :
    Takes { s with env := { s.env with inputs := [i], turns := .host :: ts } } i s := by
  refine ⟨[], rfl, .inr (.inl ⟨hb, ts, rfl, ?_⟩)⟩
  have : s = { s with env := { s.env with inputs := [], turns := ts } } := by rw [← hi, ← ht]
  exact this

theorem no_reset (s : State) (hi : s.env.inputs = []) : ¬ResetNext s := by
  rintro ⟨role, sid, u, rest, h, _⟩
  rw [hi] at h
  cases h

theorem m0_idle : m0.busy = false := by decide

theorem inBreak_busy : inBreak.busy = true := by decide

theorem rawFinish_busy : atRawFinish.busy = true := by decide

theorem witness_ResetAtAnyTime :
    Takes (pending m0 (.reset .slave 0x05#6)) (.reset .slave 0x05#6) m0 ∧
    Takes { inBreak with env := { inBreak.env with inputs := [.reset .slave 0x3F#6], turns := [.host] } }
      (.reset .slave 0x3F#6) inBreak :=
  ⟨takes_idle _ _ m0_idle rfl, takes_busy _ _ [] inBreak_busy rfl rfl⟩

theorem witness_StepRunsDecodedCommand :
    (Takes (pending m0 (.write 0x02#6 0x01#8)) (.write 0x02#6 0x01#8) m0 ∧ decodeCommand 0x01#8 = .ok .txFrame) ∧
    decodeTableWord 8 7 = some .wake ∧
    Takes (pending m0 (.write 0x3F#6 0x00#8)) (.write 0x3F#6 0x00#8) m0 ∧
    EngineMoves inBreak inBreak ∧ (m0.env.inputs = [] ∧ m0.busy = false) :=
  ⟨⟨takes_idle _ _ m0_idle rfl, rfl⟩, rfl, takes_idle _ _ m0_idle rfl, ⟨inBreak_busy, .inl ⟨rfl, rfl⟩⟩, rfl, m0_idle⟩

theorem witness_HostReadAnswers :
    (∀ a : Addr, Takes (pending m0 (.read a)) (.read a) m0) ∧
    (0x06 ≤ (0x06#6).toNat ∧ (0x06#6).toNat ≤ 0x0F) ∧ (0x06 ≤ (0x0F#6).toNat ∧ (0x0F#6).toNat ≤ 0x0F) ∧
    (0x10#6).toNat = 0x10 + 0 ∧ (0x1F#6).toNat = 0x10 + 15 ∧
    (0x20#6).toNat = 0x20 + 0 ∧ (0x2F#6).toNat = 0x20 + 15 ∧ 0x30 ≤ (0x30#6).toNat ∧ 0x30 ≤ (0x3F#6).toNat :=
  ⟨fun _ => takes_idle _ _ m0_idle rfl, by decide⟩

theorem witness_ReservedAddresses :
    (0x06 ≤ (0x06#6).toNat ∧ (0x06#6).toNat ≤ 0x0F) ∧ (0x06 ≤ (0x0F#6).toNat ∧ (0x0F#6).toNat ≤ 0x0F) ∧
    0x30 ≤ (0x30#6).toNat ∧ 0x30 ≤ (0x3F#6).toNat := by decide

theorem witness_ReadOnlyRegisters :
    (0x20 ≤ (0x20#6).toNat ∧ (0x20#6).toNat ≤ 0x2F) ∧ (0x20 ≤ (0x2F#6).toNat ∧ (0x2F#6).toNat ≤ 0x2F) ∧
    m0.busy = false := by decide

theorem witness_IdleWritesStore :
    m0.busy = false ∧ (0x10#6).toNat = 0x10 + 0 ∧ (0x1F#6).toNat = 0x10 + 15 := by decide

theorem witness_BusyIgnoresWrites : inBreak.busy = true := inBreak_busy

theorem witness_OtherWidthRefused : Takes (pending m0 (.otherWidth 2)) (.otherWidth 2) m0 :=
  takes_idle _ _ m0_idle rfl

theorem witness_CommandBytes :
    decodeCommand 0x07#8 = .ok .wake ∧ 0x08 ≤ (0x08#8).toNat ∧ 0x08 ≤ (0xFF#8).toNat := ⟨rfl, by decide, by decide⟩

theorem witness_TransactionWordRoundTrip :
    decodeTransaction 0x8201#16 = some (.write 0x02#6 0x01#8) ∧ decodeTransaction 0x3F00#16 = some (.read 0x3F#6) := by
  decide

theorem witness_CallExpansions :
    ({ m0 with env := { m0.env with reads := [(0x05#6, 0x01#8)] } } : State).env.reads.getLast? = some (0x05#6, 0x01#8) ∧
    m0.env.reads.getLast? ≠ some (0x05#6, 0x01#8) ∧
    (Takes (pending m0 .poll) .poll m0 ∧ ((pending m0 .poll).readReg 0x05#6).getLsbD 7 = false) ∧
    (Takes { inBreak with env := { inBreak.env with inputs := [.poll], turns := [.host] } } .poll inBreak ∧
      (inBreak.readReg 0x05#6).getLsbD 7 = true) :=
  ⟨by decide, by decide, ⟨takes_idle _ _ m0_idle rfl, by decide⟩, takes_busy _ _ [] inBreak_busy rfl rfl, by decide⟩

theorem witness_IdentifierByte : pid 0x3C#6 = pid 0x3C#6 := rfl

theorem witness_ChecksumGenerator : ([0xFF#8, 0x01#8].map BitVec.toNat).sum % 256 = 0 := by decide

theorem witness_ChecksumLaws :
    checksumOk [] 0xFF#8 = true ∧ checksumOk ([0x01#8] ++ 0x02#8 :: []) 0xFC#8 = true ∧
    [0x01#8, 0x00#8].Perm [0x00#8, 0x01#8] := ⟨rfl, by decide, List.Perm.swap _ _ _⟩

/-- For the acceptance and run statements bounded at 8. -/
theorem witness_payload_eight :
    ({ m0 with len := 0x08#8 } : State).busy = false ∧ ({ m0 with len := 0x08#8 } : State).len.toNat ≤ 8 := by decide

/-- For the acceptance and run statements bounded at 16. -/
theorem witness_payload_sixteen :
    ({ m0 with len := 0x10#8 } : State).busy = false ∧ ({ m0 with len := 0x10#8 } : State).len.toNat ≤ 16 := by decide

theorem witness_AcceptTxFrame : scenario.busy = false ∧ scenario.len.toNat ≤ 8 := by decide

theorem witness_AcceptTxHeader : m0.busy = false := m0_idle

theorem witness_AcceptTxResponse : scenario.busy = false ∧ scenario.len.toNat ≤ 8 := by decide

theorem witness_AcceptRxFrame : slave05.busy = false ∧ slave05.len.toNat ≤ 8 := by decide

theorem witness_AcceptTxRaw : scenario.busy = false ∧ scenario.len.toNat ≤ 16 := by decide

theorem witness_AcceptRxRaw : slave05.busy = false ∧ slave05.len.toNat ≤ 16 := by decide

theorem witness_AcceptWake : slave05.busy = false := by decide

theorem witness_PayloadTooLarge :
    (({ m0 with len := 0x09#8 } : State).busy = false ∧ 8 < ({ m0 with len := 0x09#8 } : State).len.toNat) ∧
    (({ m0 with len := 0x11#8 } : State).busy = false ∧ 16 < ({ m0 with len := 0x11#8 } : State).len.toNat) := by decide

theorem witness_ReservedCommandWrite : m0.busy = false ∧ 0x08 ≤ (0x08#8).toNat := by decide

theorem witness_AcceptedProgramsWellFormed :
    m0.busy = false ∧ ∃ t, exec .wake m0 = .next t ∧ t.busy = true := ⟨m0_idle, _, rfl, by decide⟩

theorem witness_EngineStepRunsMicroOp :
    (inBreak.busy = true ∧ inBreak.prog[inBreak.phase.toNat]? = some (.write [0x00#8])) ∧
    (atRawFinish.busy = true ∧ atRawFinish.prog[atRawFinish.phase.toNat]? = some (.finishRxRaw 1)) :=
  ⟨⟨inBreak_busy, rfl⟩, rawFinish_busy, rfl⟩

theorem witness_PlainMicroOps : ({ m0 with fail := true } : State).fail = true ∧ m0.fail = false := ⟨rfl, rfl⟩

theorem witness_AskingMicroOps :
    ({ m0 with fail := true } : State).fail = true ∧ m0.fail = false ∧
    ({ m0 with env := { m0.env with txAnswers := [1] } } : State).env.txAnswers = 1 :: [] ∧ 1 ≤ [0x00#8].length ∧
    ({ m0 with env := { m0.env with rxAnswers := [[0x00#8]] } } : State).env.rxAnswers = [0x00#8] :: [] ∧
    ({ m0 with env := { m0.env with wakeAnswers := [true] } } : State).env.wakeAnswers = true :: [] :=
  ⟨rfl, rfl, rfl, by decide, rfl, rfl⟩

theorem witness_FinishRxFrame :
    (received m0 [0x55#8, 0x80#8]).stage.length < 0 + 3 ∧
    (0 + 3 ≤ (received slave05 [0x55#8, 0x05#8, 0xFF#8]).stage.length ∧ slave05.role = .slave ∧
      (0x05#8 : Byte) ≠ slave05.boundPid) ∧
    (0 + 3 ≤ (received m0 [0x55#8, 0x23#8, 0xFF#8]).stage.length ∧ m0.role = .master ∧ parityOk 0x23#8 = false) ∧
    (m0.role = .master ∧ parityOk 0x80#8 = true ∧ checksumOk [] 0xFE#8 = false ∧ checksumOk [] 0xFF#8 = true) ∧
    (slave05.role = .slave ∧ (0x85#8 : Byte) = slave05.boundPid) := by decide

theorem witness_FinishRxRaw : (received m0 [0x55#8]).stage.length < 2 ∧ 1 ≤ (received m0 [0x55#8]).stage.length := by
  decide

/-- A slave's and a master's frame with a wrong synch byte (vector 2.7n is the master's). -/
theorem witness_SynchByteNotChecked :
    (0 + 3 ≤ [0x00#8, 0x85#8, 0xFF#8].length ∧ slave05.role = .slave ∧
      [0x00#8, 0x85#8, 0xFF#8].getD 1 0x00#8 = slave05.boundPid ∧ checksumOk [] 0xFF#8 = true) ∧
    (1 + 3 ≤ [0x00#8, 0x80#8, 0x07#8, 0xF8#8].length ∧ m0.role = .master ∧
      parityOk ([0x00#8, 0x80#8, 0x07#8, 0xF8#8].getD 1 0x00#8) = true ∧ checksumOk [0x07#8] 0xF8#8 = true) := by decide

theorem witness_IdentifierCheckByRole :
    (0 + 3 ≤ (received slave05 [0x55#8, 0x05#8, 0xFF#8]).stage.length ∧ slave05.role = .slave) ∧
    (0 + 3 ≤ (received m0 [0x55#8, 0x80#8, 0xFF#8]).stage.length ∧ m0.role = .master) := by decide

theorem witness_ErrorsChangeStatusAlone :
    ∃ t, ({ atRawFinish with stage := [] } : State).busy = true ∧
      ({ atRawFinish with stage := [] } : State).currentOp = some (.finishRxRaw 1) ∧
      MicroOp.isFinish (.finishRxRaw 1) = true ∧
      engineStep { atRawFinish with stage := [] } = .next t ∧ t.status ≠ 0x01#8 :=
  ⟨_, by decide, rfl, rfl, rfl, by decide⟩

theorem rawFinish_step : step atRawFinish = .next (finishRxRawStep 1 atRawFinish) :=
  step_alone rawFinish_busy rfl rfl

theorem witness_RxbufOnlyOnSuccess :
    step atRawFinish = .next (finishRxRawStep 1 atRawFinish) ∧ ¬ResetNext atRawFinish ∧
      (finishRxRawStep 1 atRawFinish).rxbuf ≠ atRawFinish.rxbuf :=
  ⟨rawFinish_step, no_reset _ rfl, by decide⟩

/-- For RoleFixedBetweenResets, HistoryOnlyGrows and OperandsStableWhileBusy. -/
theorem witness_step_without_reset :
    atRawFinish.busy = true ∧ step atRawFinish = .next (finishRxRawStep 1 atRawFinish) ∧ ¬ResetNext atRawFinish :=
  ⟨rawFinish_busy, rawFinish_step, no_reset _ rfl⟩

theorem witness_OutsideCannotDisturbCommand :
    Takes { inBreak with env := { inBreak.env with inputs := [.write 0x04#6 0x05#8], turns := [.host] } }
      (.write 0x04#6 0x05#8) inBreak ∧
    step { inBreak with env := { inBreak.env with inputs := [.write 0x04#6 0x05#8], turns := [.host] } } = .next inBreak := by
  have h := takes_busy inBreak (.write 0x04#6 0x05#8) [] inBreak_busy rfl rfl
  refine ⟨h, ?_⟩
  rw [step_of_takes h]
  rfl

theorem witness_BusyChangesOnlyAtAcceptanceAndFinish :
    (atRawFinish.busy = true ∧ step atRawFinish = .next (finishRxRawStep 1 atRawFinish) ∧ ¬ResetNext atRawFinish ∧
      (finishRxRawStep 1 atRawFinish).busy = false) ∧
    (∃ t, (pending m0 (.write 0x02#6 0x07#8)).busy = false ∧ step (pending m0 (.write 0x02#6 0x07#8)) = .next t ∧
      ¬ResetNext (pending m0 (.write 0x02#6 0x07#8)) ∧ t.busy = true) := by
  refine ⟨⟨rawFinish_busy, rawFinish_step, no_reset _ rfl, by decide⟩, ⟨_, m0_idle, rfl, ?_, by decide⟩⟩
  rintro ⟨role, sid, u, rest, h, _⟩
  cases h

theorem m0_inv : m0.Inv := by
  refine ⟨⟨.inl rfl, .inl ⟨by decide, rfl⟩, by decide, .inr ⟨.noResult, rfl⟩, by decide⟩, ?_, fun _ => ⟨rfl, by decide⟩⟩
  intro h
  exact absurd h (by decide)

theorem inBreak_inv : inBreak.Inv := by
  refine ⟨⟨.inl rfl, .inl ⟨by decide, rfl⟩, by decide, .inl rfl, by decide⟩, fun _ => ⟨.txHeader, ?_⟩, ?_⟩
  · refine ⟨rfl, rfl, rfl, by decide, ?_, rfl, ⟨.unknown, by decide, rfl⟩⟩
    intro u _
    exact Nat.zero_le _
  · intro h
    exact absurd h (by decide)

theorem witness_EveryStepKeepsInv : m0.Inv ∧ step m0 = .next m0 := ⟨m0_inv, rfl⟩

theorem witness_BreakBaudOnlyInBreak : inBreak.Inv ∧ inBreak.baudSet = .breakRate := ⟨inBreak_inv, rfl⟩

theorem witness_NormalModeOnlyInBracket : inBreak.Inv ∧ inBreak.modeSet = .known .normal := ⟨inBreak_inv, rfl⟩

theorem witness_NoStepIsStuck : inBreak.Inv := inBreak_inv

theorem witness_RunningCommandEnds : inBreak.Inv ∧ inBreak.busy = true ∧ inBreak.env.inputs = [] :=
  ⟨inBreak_inv, inBreak_busy, rfl⟩

theorem witness_TxFrameRun :
    scenario.busy = false ∧ scenario.len.toNat ≤ 8 ∧
    [31#8, 255#8, 0#8, 0#8, 3#8] = scenario.txbuf.toList.take scenario.len.toNat ∧
    [0x55#8, 0xA3#8, 31#8, 255#8, 0#8, 0#8, 3#8, 222#8] =
      [0x55#8, pid (scenario.id.setWidth 6)] ++ [31#8, 255#8, 0#8, 0#8, 3#8] ++
        [checksum [31#8, 255#8, 0#8, 0#8, 3#8]] := by decide

theorem witness_TxHeaderRun : m0.busy = false := m0_idle

theorem witness_TxResponseRun :
    scenario.busy = false ∧ scenario.len.toNat ≤ 8 ∧
    [31#8, 255#8, 0#8, 0#8, 3#8] = scenario.txbuf.toList.take scenario.len.toNat ∧ 6 ≤ scenario.len.toNat + 1 := by decide

theorem witness_TxRawRun :
    scenario.busy = false ∧ scenario.len.toNat ≤ 16 ∧
    [31#8, 255#8, 0#8, 0#8, 3#8] = scenario.txbuf.toList.take scenario.len.toNat ∧ 5 ≤ scenario.len.toNat := by decide

theorem witness_RxFrameRun : m0.busy = false ∧ m0.len.toNat ≤ 8 ∧ [0x55#8, 0x80#8, 0xFF#8].length ≤ m0.len.toNat + 3 := by
  decide

theorem witness_RxRawRun :
    ({ m0 with len := 0x02#8 } : State).busy = false ∧ ({ m0 with len := 0x02#8 } : State).len.toNat ≤ 16 ∧
    [0x55#8, 0xA3#8].length ≤ ({ m0 with len := 0x02#8 } : State).len.toNat := by decide

theorem witness_WakeRun : m0.busy = false := m0_idle

theorem witness_TransmitAlwaysRestores :
    ∃ t, m0.busy = false ∧ m0.env.inputs = [] ∧ exec .txHeader m0 = .next t ∧ t.busy = true :=
  ⟨_, m0_idle, rfl, rfl, by decide⟩

theorem witness_ReceiveRejectsBadFrames :
    (m0.busy = false ∧ m0.len.toNat ≤ 8 ∧ [0x55#8, 0x80#8].length < m0.len.toNat + 3) ∧
    (∃ u, commandRun .rxFrame 2 (m0.alone [] [[0x55#8, 0x80#8, 0xFF#8]] []) = .next u ∧ u.status = 0x01#8 ∧
      [0x55#8, 0x80#8, 0xFF#8].length = m0.len.toNat + 3) ∧
    (slave05.busy = false ∧ slave05.len.toNat ≤ 8 ∧ slave05.role = .slave ∧ slave05.boundPid = 0x85#8 ∧
      [0x55#8, 0x05#8, 0xFF#8].length = slave05.len.toNat + 3 ∧ [0x55#8, 0x05#8, 0xFF#8].getD 1 0x00#8 ≠ 0x85#8) :=
  ⟨by decide, ⟨_, rfl, by decide, by decide⟩, by decide⟩

theorem witness_FrameRoundTrip :
    scenario.busy = false ∧ scenario.len.toNat ≤ 8 ∧
    ({ slave23 with len := 0x05#8 } : State).busy = false ∧ ({ slave23 with len := 0x05#8 } : State).len = scenario.len ∧
    ({ slave23 with len := 0x05#8 } : State).role = .slave ∧
    ({ slave23 with len := 0x05#8 } : State).boundPid = pid (scenario.id.setWidth 6) ∧
    ({ m0 with len := 0x05#8 } : State).role = .master := by decide

end Sys2Proof.Tests
end

section
/-! SUPPORT. The rules of single operations that the state's invariants rest on: what a register read looks at, what a
host write and a micro-op change, and what a step that is no reset can do. -/

namespace Sys2Proof.Machine

/-! ### Register reads (R41, R42) -/

/-- The address map of R41: six registers, the two buffers, and the reserved ranges. -/
theorem addr_cases (a : Addr) :
    a = 0x00#6 ∨ a = 0x01#6 ∨ a = 0x02#6 ∨ a = 0x03#6 ∨ a = 0x04#6 ∨ a = 0x05#6 ∨
    (0x10 ≤ a.toNat ∧ a.toNat < 0x20) ∨ (0x20 ≤ a.toNat ∧ a.toNat < 0x30) ∨
    ((0x06 ≤ a.toNat ∧ a.toNat < 0x10) ∨ 0x30 ≤ a.toNat) := by
  bv_omega

@[simp] theorem State.readReg_cfg (s : State) : s.readReg 0x00#6 = s.cfg &&& 0x01#8 := rfl
@[simp] theorem State.readReg_boundPid (s : State) : s.readReg 0x01#6 = s.boundPid := rfl
@[simp] theorem State.readReg_cmd (s : State) : s.readReg 0x02#6 = s.cmd := rfl
@[simp] theorem State.readReg_id (s : State) : s.readReg 0x03#6 = s.id &&& 0x3F#8 := rfl
@[simp] theorem State.readReg_len (s : State) : s.readReg 0x04#6 = s.len := rfl
@[simp] theorem State.readReg_status (s : State) : s.readReg 0x05#6 = s.status &&& 0x8F#8 := rfl

/-- Past the six registers a read looks at the buffers. -/
theorem State.readReg_of_six_le (s : State) {a : Addr} (h : 6 ≤ a.toNat) :
    s.readReg a =
      if h : 0x10 ≤ a.toNat ∧ a.toNat < 0x20 then s.txbuf[a.toNat - 0x10]
      else if h : 0x20 ≤ a.toNat ∧ a.toNat < 0x30 then s.rxbuf[a.toNat - 0x20]
      else 0x00#8 := by
  unfold State.readReg
  split
  case h_7 => rfl
  all_goals omega

theorem State.readReg_txbuf (s : State) {a : Addr} (h : 0x10 ≤ a.toNat ∧ a.toNat < 0x20) :
    s.readReg a = s.txbuf[a.toNat - 0x10] := by
  rw [s.readReg_of_six_le (by omega), dif_pos h]

theorem State.readReg_rxbuf (s : State) {a : Addr} (h : 0x20 ≤ a.toNat ∧ a.toNat < 0x30) :
    s.readReg a = s.rxbuf[a.toNat - 0x20] := by
  rw [s.readReg_of_six_le (by omega), dif_neg (by omega), dif_pos h]

theorem State.readReg_reserved (s : State) {a : Addr}
    (h : (0x06 ≤ a.toNat ∧ a.toNat < 0x10) ∨ 0x30 ≤ a.toNat) : s.readReg a = 0x00#8 := by
  rw [s.readReg_of_six_le (by omega), dif_neg (by omega), dif_neg (by omega)]

/-! ### Register writes (R24, R25, R27, R45) -/

@[simp] theorem State.writeReg_id (v : Byte) (s : State) : s.writeReg 0x03#6 v = s.setId v := rfl
@[simp] theorem State.writeReg_len (v : Byte) (s : State) : s.writeReg 0x04#6 v = s.setLen v := rfl

theorem State.writeReg_txbuf {i : Nat} (hi : i < 16) {a : Addr} (ha : a.toNat = 0x10 + i) (v : Byte) (s : State) :
    s.writeReg a v = s.setTxbuf (s.txbuf.set i v) := by
  obtain rfl : i = a.toNat - 0x10 := by omega
  rcases s.writeReg_cases a v with ⟨rfl, _⟩ | ⟨rfl, _⟩ | ⟨_, h⟩ | ⟨_, _, hn, _⟩
  · simp at ha
  · simp at ha
  · exact h
  · omega

/-- Everything but ID, LEN and TXBUF, the fields a register write can store into. -/
structure SameButOperands (s t : State) : Prop where
  cfg : t.cfg = s.cfg
  boundPid : t.boundPid = s.boundPid
  cmd : t.cmd = s.cmd
  status : t.status = s.status
  rxbuf : t.rxbuf = s.rxbuf
  phase : t.phase = s.phase
  prog : t.prog = s.prog
  fail : t.fail = s.fail
  stage : t.stage = s.stage
  baudSet : t.baudSet = s.baudSet
  modeSet : t.modeSet = s.modeSet
  hist : t.hist = s.hist
  env : t.env = s.env

theorem State.writeReg_sameButOperands (a : Addr) (v : Byte) (s : State) : SameButOperands s (s.writeReg a v) := by
  rcases s.writeReg_cases a v with ⟨_, h⟩ | ⟨_, h⟩ | ⟨_, h⟩ | ⟨_, _, _, h⟩ <;> rw [h] <;> constructor <;> rfl

theorem State.writeReg_id_of_ne {a : Addr} (ha : a ≠ 0x03#6) (v : Byte) (s : State) : (s.writeReg a v).id = s.id := by
  rcases s.writeReg_cases a v with ⟨h, _⟩ | ⟨_, h⟩ | ⟨_, h⟩ | ⟨_, _, _, h⟩
  · exact absurd h ha
  all_goals simp [h]

theorem State.writeReg_len_of_ne {a : Addr} (ha : a ≠ 0x04#6) (v : Byte) (s : State) : (s.writeReg a v).len = s.len := by
  rcases s.writeReg_cases a v with ⟨_, h⟩ | ⟨h, _⟩ | ⟨_, h⟩ | ⟨_, _, _, h⟩
  case inr.inl => exact absurd h ha
  all_goals simp [h]

theorem State.writeReg_txbuf_of_ne {a : Addr} {i : Nat} (hi : i < 16) (ha : a.toNat ≠ 0x10 + i) (v : Byte) (s : State) :
    (s.writeReg a v).txbuf[i] = s.txbuf[i] := by
  rcases s.writeReg_cases a v with ⟨_, h⟩ | ⟨_, h⟩ | ⟨_, h⟩ | ⟨_, _, _, h⟩
  case inr.inr.inl => simp only [h, State.setTxbuf_txbuf]; exact Vector.getElem_set_ne _ _ (by omega)
  all_goals simp only [h, State.setId_txbuf, State.setLen_txbuf]

/-- ID holds 6 bits after a write if it did before (R24). -/
theorem State.writeReg_ident {s : State} (h : s.id = s.id &&& 0x3F#8) (a : Addr) (v : Byte) :
    (s.writeReg a v).id = (s.writeReg a v).id &&& 0x3F#8 := by
  by_cases ha : a = 0x03#6
  · subst ha
    simp [BitVec.and_assoc]
  · rw [State.writeReg_id_of_ne ha]
    exact h

/-- A register write outside CMD changes what no other address reads (R45). -/
theorem State.readReg_writeReg_of_ne {a b : Addr} (hab : b ≠ a) (v : Byte) (s : State) :
    (s.writeReg a v).readReg b = s.readReg b := by
  have hsame := s.writeReg_sameButOperands a v
  have hne : a.toNat ≠ b.toNat := fun h => hab (BitVec.eq_of_toNat_eq h.symm)
  rcases addr_cases b with rfl | rfl | rfl | rfl | rfl | rfl | hb | hb | hb
  · simp [hsame.cfg]
  · simp [hsame.boundPid]
  · simp [hsame.cmd]
  · simp [State.writeReg_id_of_ne hab.symm]
  · simp [State.writeReg_len_of_ne hab.symm]
  · simp [hsame.status]
  · rw [State.readReg_txbuf _ hb, State.readReg_txbuf _ hb]
    exact State.writeReg_txbuf_of_ne (by omega) (by omega) v s
  · simp [State.readReg_rxbuf _ hb, hsame.rxbuf]
  · simp [State.readReg_reserved _ hb]

/-- An idle write to any address but CMD's is the register write alone (R45). -/
theorem hostWrite_idle {s : State} (hb : s.busy = false) {a : Addr} (ha : a ≠ 0x02#6) (v : Byte) :
    hostWrite a v s = .next (s.writeReg a v) := by
  simp [hostWrite, ha, hb]

/-- What no host write changes, to CMD or elsewhere: the configuration, RXBUF, the marks of what was asked of the
collaborators, and HIST (R21, R22, R28, R33 to R35). -/
structure SameOutsideHostReach (s t : State) : Prop where
  cfg : t.cfg = s.cfg
  boundPid : t.boundPid = s.boundPid
  rxbuf : t.rxbuf = s.rxbuf
  baudSet : t.baudSet = s.baudSet
  modeSet : t.modeSet = s.modeSet
  hist : t.hist = s.hist

theorem SameOutsideHostReach.of_exec {i : Instr} {s t : State} (h : exec i s = .next t) : SameOutsideHostReach s t := by
  rw [exec_eq_accept] at h
  rcases acceptCommand_cases h with ⟨_, rfl⟩ | ⟨_, _, rfl⟩ | ⟨_, _, rfl⟩ <;> constructor <;> rfl

theorem SameOutsideHostReach.of_hostWrite {a : Addr} {v : Byte} {s t : State} (h : hostWrite a v s = .next t) :
    SameOutsideHostReach s t := by
  rcases hostWrite_cases h with rfl | ⟨_, _, i, _, hi⟩ | ⟨_, _, _, rfl⟩ | ⟨_, _, rfl⟩
  · constructor <;> rfl
  · exact .of_exec hi
  · constructor <;> rfl
  · have hsame := s.writeReg_sameButOperands a v
    exact ⟨hsame.cfg, hsame.boundPid, hsame.rxbuf, hsame.baudSet, hsame.modeSet, hsame.hist⟩

/-! ### Micro-ops (R80) -/

theorem baudAfter_append (b : BaudRate) (p q : List MicroOp) : baudAfter b (p ++ q) = baudAfter (baudAfter b p) q := by
  induction p generalizing b with
  | nil => rfl
  | cons u us ih => cases u <;> exact ih _

theorem modeAfter_append (m : ModeMark) (p q : List MicroOp) : modeAfter m (p ++ q) = modeAfter (modeAfter m p) q := by
  induction p generalizing m with
  | nil => rfl
  | cons u us ih => cases u <;> exact ih _

/-- A FINISH asks for no rate. -/
theorem baudAfter_finish (b : BaudRate) {u : MicroOp} (h : u.isFinish = true) : baudAfter b [u] = b := by
  cases u <;> simp_all [MicroOp.isFinish, baudAfter]

/-- A FINISH asks for no mode. -/
theorem modeAfter_finish (m : ModeMark) {u : MicroOp} (h : u.isFinish = true) : modeAfter m [u] = m := by
  cases u <;> simp_all [MicroOp.isFinish, modeAfter]

/-- What a micro-op does to the fields that it may change, HIST and STATUS apart: BAUD_SET and MODE_SET follow the micro-op,
only a READ changes STAGE, and only a receive finish that ends with OK changes RXBUF (R28, R32 to R34). -/
structure MicroEffect (u : MicroOp) (s t : State) : Prop where
  baudSet : t.baudSet = baudAfter s.baudSet [u]
  modeSet : t.modeSet = modeAfter s.modeSet [u]
  stage : ((∀ m, u ≠ .read m) ∧ t.stage = s.stage) ∨ ∃ m, u = .read m ∧ t.stage.length ≤ m
  rxbuf : t.rxbuf = s.rxbuf ∨
    ((∃ n, u = .finishRxFrame n ∨ u = .finishRxRaw n) ∧ t.status = statusByte false .ok)

theorem execMicro_effect (u : MicroOp) (s : State) : MicroEffect u s (execMicro u s) := by
  cases u with
  | mode m => exact ⟨rfl, rfl, .inl ⟨nofun, rfl⟩, .inl rfl⟩
  | delay t => exact ⟨rfl, rfl, .inl ⟨nofun, rfl⟩, .inl rfl⟩
  | baud r => exact ⟨rfl, rfl, .inl ⟨nofun, rfl⟩, .inl rfl⟩
  | write bs =>
    rcases writeStep_cases bs s with ⟨_, h⟩ | ⟨_, k, e, _, _, _, _, h⟩ <;> simp only [execMicro, h] <;>
      exact ⟨rfl, rfl, .inl ⟨nofun, rfl⟩, .inl rfl⟩
  | read m =>
    obtain ⟨rx, e, hrx, _, _, _, h⟩ := readStep_cases m s
    simp only [execMicro, h]
    exact ⟨rfl, rfl, .inr ⟨m, rfl, hrx⟩, .inl rfl⟩
  | wakep =>
    obtain ⟨ok, e, _, _, _, h⟩ := wakeStep_cases s
    simp only [execMicro, h]
    exact ⟨rfl, rfl, .inl ⟨nofun, rfl⟩, .inl rfl⟩
  | finishTx =>
    rcases finishTxStep_cases s with ⟨_, h⟩ | ⟨_, h⟩ <;> simp only [execMicro, h] <;>
      exact ⟨rfl, rfl, .inl ⟨nofun, rfl⟩, .inl rfl⟩
  | finishRxFrame n =>
    rcases finishRxFrameStep_cases n s with ⟨r, _, _, h⟩ | ⟨_, h⟩ <;> simp only [execMicro, h]
    · exact ⟨rfl, rfl, .inl ⟨nofun, rfl⟩, .inl rfl⟩
    · exact ⟨rfl, rfl, .inl ⟨nofun, rfl⟩, .inr ⟨⟨n, .inl rfl⟩, rfl⟩⟩
  | finishRxRaw n =>
    rcases finishRxRawStep_cases n s with ⟨_, h⟩ | ⟨_, h⟩ <;> simp only [execMicro, h]
    · exact ⟨rfl, rfl, .inl ⟨nofun, rfl⟩, .inl rfl⟩
    · exact ⟨rfl, rfl, .inl ⟨nofun, rfl⟩, .inr ⟨⟨n, .inr rfl⟩, rfl⟩⟩

/-! ### The step that is no reset -/

/-- What a step that is no reset does to the block: nothing; or it is the engine's, of a running command; or it is an idle
host write. `u` is the state with the move taken off what is pending. -/
theorem step_cases_of_not_resetNext {s t : State} (h : step s = .next t) (hr : ¬ResetNext s) :
    (∃ e, t = s.setEnv e) ∨
    (s.busy = true ∧ ∃ e, engineStep (s.setEnv e) = .next t) ∨
    (s.busy = false ∧ ∃ a v e, Takes s (.write a v) (s.setEnv e) ∧ hostWrite a v (s.setEnv e) = .next t) := by
  rcases step_cases h with ⟨_, _, rfl⟩ | ⟨u, hu, ht⟩ | ⟨i, u, hu, ht⟩
  · exact .inl ⟨t.env, rfl⟩
  · rw [hu.eq_setEnv] at ht
    exact .inr (.inl ⟨hu.1, u.env, ht⟩)
  · have hu' := hu
    rw [hu.eq_setEnv] at ht hu'
    rcases inputStep_cases ht with ⟨role, sid, rfl, _⟩ | ⟨e, rfl⟩ | ⟨hb, a, v, rfl, hw⟩
    · exact absurd ⟨role, sid, u, hu⟩ hr
    · exact .inl ⟨e, rfl⟩
    · exact .inr (.inr ⟨hb, a, v, u.env, hu', hw⟩)

end Sys2Proof.Machine
end

section
/-! SUPPORT. The programs of the commands (R81): their five shapes, that each is well formed, and what BAUD_SET and MODE_SET
are along it. -/

namespace Sys2Proof.Machine

/-! ### Well-formed programs (R29, R30) -/

theorem programWf_iff (p : List MicroOp) :
    programWf p = true ↔
      (∃ u, p.getLast? = some u ∧ u.isFinish = true) ∧ (∀ u ∈ p.dropLast, u.isFinish = false) ∧
        p.length ≤ 9 ∧ ∀ u ∈ p, u.wf = true := by
  cases h : p.getLast? <;> simp [programWf, h, and_assoc]

/-- In a well-formed program exactly the last micro-op is a FINISH. -/
theorem isFinish_iff_last {p : List MicroOp} {k : Nat} {u : MicroOp} (hwf : programWf p = true) (hk : p[k]? = some u) :
    u.isFinish = true ↔ k + 1 = p.length := by
  obtain ⟨⟨last, hlast, hfin⟩, hinit, _, _⟩ := (programWf_iff p).mp hwf
  obtain ⟨hlt, rfl⟩ := List.getElem?_eq_some_iff.mp hk
  constructor
  · intro hu
    by_contra hne
    have hmem : p[k] ∈ p.dropLast := by
      rw [← List.getElem_dropLast (xs := p) (i := k) (by simp; omega)]
      exact List.getElem_mem _
    simp [hinit _ hmem] at hu
  · intro hlen
    rw [List.getLast?_eq_getElem?, ← hlen, Nat.add_sub_cancel, hk] at hlast
    cases hlast
    exact hfin

/-! ### The shapes of R81 -/

/-- The five shapes a command's program has, with the sizes that the bounds of R64 allow. -/
inductive ProgramShape : List MicroOp → Prop
  | withBreak {bs : List Byte} (h : bs.length ≤ 16) : ProgramShape (transmitProgram (breakOps ++ [.write bs]))
  | withoutBreak {bs : List Byte} (h : bs.length ≤ 16) : ProgramShape (transmitProgram [.write bs])
  | receiveFrame {n : Nat} (h : n ≤ 8) : ProgramShape (rxFrameProgram n)
  | receiveRaw {n : Nat} (h : n ≤ 16) : ProgramShape (rxRawProgram n)
  | wake : ProgramShape wakeProgram

theorem State.payload_length_le {s : State} {b : Nat} (h : s.lenExceeds (some b) = false) : s.payload.length ≤ b :=
  (List.length_take_le _ _).trans (State.lenExceeds_some_false.mp h)

/-- A command within its bound has one of the five shapes. -/
theorem programOf_shape {i : Instr} {s : State} (h : s.lenExceeds (boundOf i) = false) : ProgramShape (programOf i s) := by
  cases i with
  | txFrame =>
    have := State.payload_length_le h
    exact .withBreak (by simp [frameBytes, headerBytes, responseBytes]; omega)
  | txHeader => exact .withBreak (by simp [headerBytes])
  | txResponse =>
    have := State.payload_length_le h
    exact .withoutBreak (by simp [responseBytes]; omega)
  | rxFrame => exact .receiveFrame (State.lenExceeds_some_false.mp h)
  | txRaw => exact .withBreak (State.payload_length_le h)
  | rxRaw => exact .receiveRaw (State.lenExceeds_some_false.mp h)
  | wake => exact .wake

/-- A program depends on ID, LEN and TXBUF alone. -/
theorem programOf_congr (i : Instr) {s t : State} (hid : t.id = s.id) (hlen : t.len = s.len) (htx : t.txbuf = s.txbuf) :
    programOf i t = programOf i s := by
  simp only [programOf, State.identOperand, State.payload, State.lenOperand, hid, hlen, htx]

namespace ProgramShape

variable {p : List MicroOp}

theorem wf (hp : ProgramShape p) : programWf p = true := by
  cases hp with
  | withBreak h =>
    simp [programWf, transmitProgram, bracket, breakOps, MicroOp.isFinish, MicroOp.wf, h]
  | withoutBreak h => simp [programWf, transmitProgram, bracket, MicroOp.isFinish, MicroOp.wf, h]
  | receiveFrame h => simp [programWf, rxFrameProgram, MicroOp.isFinish, MicroOp.wf, Config.bufSize, h]; omega
  | receiveRaw h => simp [programWf, rxRawProgram, MicroOp.isFinish, MicroOp.wf, h]
  | wake => rfl

/-- A micro-op that bounds STAGE below 16 comes right after the READ of that many bytes (R88, R95). -/
theorem stageBound_next (hp : ProgramShape p) {k : Nat} {u v : MicroOp} (hu : p[k]? = some u) (hv : p[k + 1]? = some v) :
    stageBound v = 16 ∨ u = .read (stageBound v) := by
  cases hp with
  | @withBreak bs h =>
    have h16 : ∀ w ∈ transmitProgram (breakOps ++ [.write bs]), stageBound w = 16 := by
      simp [transmitProgram, bracket, breakOps, stageBound]
    exact .inl (h16 _ (List.mem_of_getElem? hv))
  | @withoutBreak bs h =>
    have h16 : ∀ w ∈ transmitProgram [.write bs], stageBound w = 16 := by
      simp [transmitProgram, bracket, stageBound]
    exact .inl (h16 _ (List.mem_of_getElem? hv))
  | receiveFrame h =>
    cases k with
    | zero => cases hu; cases hv; exact .inr rfl
    | succ k => cases hv
  | receiveRaw h =>
    cases k with
    | zero => cases hu; cases hv; exact .inr rfl
    | succ k => cases hv
  | wake =>
    cases k with
    | zero => cases hv; exact .inl rfl
    | succ k => cases hv

/-- When its FINISH is due, a program has left the nominal rate (R82). -/
theorem baudAfter_dropLast (hp : ProgramShape p) : baudAfter .nominal p.dropLast = .nominal := by
  cases hp <;> rfl

/-- When its FINISH is due, a program has left a mode that is not Normal (R83). -/
theorem modeAfter_dropLast (hp : ProgramShape p) {m : ModeMark} (hm : m ≠ .known .normal) :
    modeAfter m p.dropLast ≠ .known .normal := by
  cases hp with
  | withBreak h => exact nofun
  | withoutBreak h => exact nofun
  | receiveFrame h => exact hm
  | receiveRaw h => exact hm
  | wake => exact hm

/-- The break rate holds only from one BAUD of a break to the other (R33, R82). -/
theorem of_baudAfter_take_eq_breakRate (hp : ProgramShape p) {k : Nat} (hk : k < p.length)
    (h : baudAfter .nominal (p.take k) = .breakRate) :
    p[2]? = some (.baud .breakRate) ∧ p[4]? = some (.baud .nominal) ∧ (k = 3 ∨ k = 4) := by
  cases hp with
  | withBreak hbs =>
    refine ⟨rfl, rfl, ?_⟩
    replace hk : k < 9 := hk
    by_contra hout
    obtain rfl | rfl | rfl | rfl | rfl | rfl | rfl : k = 0 ∨ k = 1 ∨ k = 2 ∨ k = 5 ∨ k = 6 ∨ k = 7 ∨ k = 8 := by omega
    all_goals cases h
  | withoutBreak hbs =>
    replace hk : k < 6 := hk
    interval_cases k <;> cases h
  | receiveFrame hn =>
    replace hk : k < 2 := hk
    interval_cases k <;> cases h
  | receiveRaw hn =>
    replace hk : k < 2 := hk
    interval_cases k <;> cases h
  | wake =>
    replace hk : k < 2 := hk
    interval_cases k <;> cases h

/-- The mode is Normal only inside a bracket: after its MODE(Normal) and up to its MODE(Sleep) (R34, R83). -/
theorem of_modeAfter_take_eq_normal (hp : ProgramShape p) {k : Nat} (hk : k < p.length) {m : ModeMark}
    (hm : m ≠ .known .normal) (h : modeAfter m (p.take k) = .known .normal) :
    p[0]? = some (.mode .normal) ∧ ∃ j, p[j]? = some (.mode .sleep) ∧ 1 ≤ k ∧ k ≤ j := by
  have hk1 : 1 ≤ k := by
    by_contra hlt
    obtain rfl : k = 0 := by omega
    exact hm h
  cases hp with
  | withBreak hbs =>
    replace hk : k < 9 := hk
    refine ⟨rfl, 6, rfl, hk1, ?_⟩
    by_contra hlt
    obtain rfl | rfl : k = 7 ∨ k = 8 := by omega
    all_goals cases h
  | withoutBreak hbs =>
    replace hk : k < 6 := hk
    refine ⟨rfl, 3, rfl, hk1, ?_⟩
    by_contra hlt
    obtain rfl | rfl : k = 4 ∨ k = 5 := by omega
    all_goals cases h
  | receiveFrame hn =>
    replace hk : k < 2 := hk
    obtain rfl : k = 1 := by omega
    exact absurd h hm
  | receiveRaw hn =>
    replace hk : k < 2 := hk
    obtain rfl : k = 1 := by omega
    exact absurd h hm
  | wake =>
    replace hk : k < 2 := hk
    obtain rfl : k = 1 := by omega
    exact absurd h hm

end ProgramShape

end Sys2Proof.Machine
end

section
/-! SUPPORT. The invariant of the machine (`State.Inv`): reset meets it and every step keeps it. -/

namespace Sys2Proof.Machine

theorem State.role_congr {s t : State} (h : t.cfg = s.cfg) : t.role = s.role := by
  simp only [State.role, h]

theorem State.busy_congr {s t : State} (h : t.status = s.status) : t.busy = s.busy := by
  simp only [State.busy, h]

theorem State.lenExceeds_congr (b : Option Nat) {s t : State} (h : t.len = s.len) : t.lenExceeds b = s.lenExceeds b := by
  unfold State.lenExceeds State.lenOperand
  rw [h]

theorem State.busy_of_status {s : State} {b : Bool} {r : Result} (h : s.status = statusByte b r) : s.busy = b := by
  simp only [State.busy, h, statusByte_getLsbD_busy]

theorem decodeCommand_opcode (i : Instr) : decodeCommand (opcode i) = .ok i := by
  cases i <;> rfl

/-! ### Assembling the invariant -/

/-- Legal registers stay legal while the configuration stays and the other fields hold legal values. -/
theorem State.RegistersLegal.of_cfg {s t : State} (h : s.RegistersLegal) (hcfg : t.cfg = s.cfg)
    (hbound : t.boundPid = s.boundPid) (ident : t.id = t.id &&& 0x3F#8)
    (status : t.status = statusByte true .noResult ∨ ∃ r, t.status = statusByte false r)
    (stage : t.stage.length ≤ 16) : t.RegistersLegal where
  cfg := hcfg ▸ h.cfg
  bound := by rw [State.role_congr hcfg, hbound]; exact h.bound
  ident := ident
  status := status
  stage := stage

theorem State.Inv.of_idle {s : State} (hlegal : s.RegistersLegal) (hb : s.busy = false) (hidle : s.Idle) : s.Inv :=
  ⟨hlegal, fun h => absurd h (by simp [hb]), fun _ => hidle⟩

theorem State.Inv.of_running {s : State} {i : Instr} (hlegal : s.RegistersLegal) (hb : s.busy = true)
    (hrun : s.Running i) : s.Inv :=
  ⟨hlegal, fun _ => ⟨i, hrun⟩, fun h => absurd h (by simp [hb])⟩

/-! ### Reset and the outside -/

theorem State.resetWith_inv (role : Role) (sid : Ident) : (State.resetWith role sid).Inv := by
  refine .of_idle ⟨?_, ?_, by simp [State.resetWith], .inr ⟨.noResult, rfl⟩, Nat.zero_le _⟩
    (State.resetWith_busy role sid) ⟨rfl, nofun⟩
  · cases role
    · exact .inl rfl
    · exact .inr rfl
  · rw [State.resetWith_role]
    cases role
    · exact .inl ⟨rfl, rfl⟩
    · exact .inr ⟨rfl, sid, rfl⟩

/-- The invariant does not look at the outside. -/
theorem State.Inv.setEnv {s : State} (h : s.Inv) (e : Env) : (s.setEnv e).Inv := by
  have hlegal : (s.setEnv e).RegistersLegal :=
    h.legal.of_cfg rfl rfl h.legal.ident h.legal.status h.legal.stage
  refine ⟨hlegal, fun hb => ?_, fun hb => ?_⟩
  · obtain ⟨i, hr⟩ := h.running hb
    exact ⟨i, hr.cmd, hr.bound, hr.prog.trans (programOf_congr i rfl rfl rfl).symm, hr.phase, hr.stage, hr.baud, hr.mode⟩
  · exact ⟨(h.idle hb).baud, (h.idle hb).mode⟩

/-! ### The host's writes -/

/-- An ended command, or one that never began, leaves an idle block (R33, R34). -/
theorem State.Inv.finish_of_idle {s : State} (h : s.Inv) (hb : s.busy = false) (v : Byte) (r : Result) :
    ((s.setCmd v).finish r).Inv :=
  .of_idle (h.legal.of_cfg rfl rfl h.legal.ident (.inr ⟨r, rfl⟩) h.legal.stage) (State.finish_busy _ _)
    ⟨(h.idle hb).baud, (h.idle hb).mode⟩

/-- An accepted command runs from PHASE 0 of its program, with the nominal rate and not in Normal (R78). -/
theorem State.Inv.start_of_idle {s : State} (h : s.Inv) (hb : s.busy = false) {i : Instr}
    (hbound : s.lenExceeds (boundOf i) = false) : ((s.setCmd (opcode i)).start (programOf i s)).Inv := by
  have hlegal : ((s.setCmd (opcode i)).start (programOf i s)).RegistersLegal :=
    h.legal.of_cfg rfl rfl h.legal.ident (.inl rfl) (Nat.zero_le _)
  refine .of_running (i := i) hlegal (State.start_busy _ _) ?_
  exact {
    cmd := decodeCommand_opcode i
    bound := hbound
    prog := (programOf_congr i rfl rfl rfl).symm
    phase := by
      obtain ⟨⟨u, hu, _⟩, _⟩ := (programWf_iff _).mp (programOf_shape hbound).wf
      exact List.length_pos_of_mem (List.mem_of_getLast? hu)
    stage := fun _ _ => Nat.zero_le _
    baud := (h.idle hb).baud
    mode := ⟨s.modeSet, (h.idle hb).mode, rfl⟩ }

theorem State.Inv.of_exec {s t : State} {i : Instr} (h : s.Inv) (ht : exec i s = .next t) : t.Inv := by
  rw [exec_eq_accept] at ht
  rcases acceptCommand_cases ht with ⟨_, rfl⟩ | ⟨hb, _, rfl⟩ | ⟨hb, hbound, rfl⟩
  · exact h
  · exact h.finish_of_idle hb _ _
  · exact h.start_of_idle hb hbound

theorem State.Inv.writeReg_of_idle {s : State} (h : s.Inv) (hb : s.busy = false) (a : Addr) (v : Byte) :
    (s.writeReg a v).Inv := by
  have hsame := s.writeReg_sameButOperands a v
  refine .of_idle (h.legal.of_cfg hsame.cfg hsame.boundPid (State.writeReg_ident h.legal.ident a v) ?_ ?_) ?_ ⟨?_, ?_⟩
  · exact hsame.status ▸ h.legal.status
  · exact hsame.stage ▸ h.legal.stage
  · rw [State.busy_congr hsame.status, hb]
  · exact hsame.baudSet.trans (h.idle hb).baud
  · exact hsame.modeSet ▸ (h.idle hb).mode

theorem State.Inv.of_hostWrite {s t : State} {a : Addr} {v : Byte} (h : s.Inv) (ht : hostWrite a v s = .next t) :
    t.Inv := by
  rcases hostWrite_cases ht with rfl | ⟨_, _, i, _, hi⟩ | ⟨hb, _, _, rfl⟩ | ⟨hb, _, rfl⟩
  · exact h
  · exact h.of_exec hi
  · exact h.finish_of_idle hb _ _
  · exact h.writeReg_of_idle hb a v

theorem State.Inv.of_inputStep {s t : State} {i : Input} (h : s.Inv) (ht : inputStep i s = .next t) : t.Inv := by
  rcases inputStep_cases ht with ⟨role, sid, _, rfl⟩ | ⟨e, rfl⟩ | ⟨_, a, v, _, hw⟩
  · exact (State.resetWith_inv role sid).setEnv _
  · exact h.setEnv e
  · exact h.of_hostWrite hw

/-! ### The engine's step -/

namespace State.Running

variable {s : State} {i : Instr}

/-- A running command's program has one of the shapes of R81. -/
theorem shape (hr : s.Running i) : ProgramShape s.prog :=
  hr.prog ▸ programOf_shape hr.bound

/-- A READ that is due asks for at most 16 bytes, so STAGE never holds more (R32). -/
theorem stage_execMicro_le (hr : s.Running i) (hs : s.stage.length ≤ 16) {u : MicroOp} (hu : s.currentOp = some u) :
    (execMicro u s).stage.length ≤ 16 := by
  rcases (execMicro_effect u s).stage with ⟨_, h⟩ | ⟨m, rfl, hm⟩
  · exact h ▸ hs
  · obtain ⟨_, _, _, hwf⟩ := (programWf_iff _).mp hr.shape.wf
    have hm16 : m ≤ 16 := by simpa [MicroOp.wf] using hwf _ (List.mem_of_getElem? hu)
    omega

/-- The registers stay legal under the micro-op that is due, FINISH or not. -/
theorem legal_execMicro (hr : s.Running i) (hl : s.RegistersLegal) {u : MicroOp} (hu : s.currentOp = some u) :
    (execMicro u s).RegistersLegal := by
  have hsame := execMicro_sameOperands u s
  refine hl.of_cfg hsame.cfg hsame.boundPid (hsame.id ▸ hl.ident) ?_ (hr.stage_execMicro_le hl.stage hu)
  rcases execMicro_status u s with ⟨_, h⟩ | ⟨_, r, _, h⟩
  · exact h ▸ hl.status
  · exact .inr ⟨r, h⟩

/-- The micro-ops run before the one due, and then that one. -/
theorem take_succ {u : MicroOp} (hu : s.currentOp = some u) :
    s.prog.take (s.phase.toNat + 1) = s.prog.take s.phase.toNat ++ [u] := by
  rw [List.take_add_one, show s.prog[s.phase.toNat]? = some u from hu]
  rfl

/-- A FINISH leaves an idle block: the program before it restored the rate and left Normal (R33, R34, R82, R83). -/
theorem idle_execMicro_finish (hr : s.Running i) {u : MicroOp} (hu : s.currentOp = some u) (hf : u.isFinish = true) :
    (execMicro u s).Idle := by
  have heff := execMicro_effect u s
  have hlast := (isFinish_iff_last hr.shape.wf hu).mp hf
  have htake : s.prog.take s.phase.toNat = s.prog.dropLast := by
    rw [List.dropLast_eq_take, ← hlast, Nat.add_sub_cancel]
  obtain ⟨m, hm, hmode⟩ := hr.mode
  rw [htake] at hmode
  constructor
  · rw [heff.baudSet, baudAfter_finish _ hf, hr.baud, htake, hr.shape.baudAfter_dropLast]
  · rw [heff.modeSet, modeAfter_finish _ hf, hmode]
    exact hr.shape.modeAfter_dropLast hm

/-- Any other micro-op hands on to the next of the same program (R29). -/
theorem nextPhase_execMicro (hr : s.Running i) (hs : s.stage.length ≤ 16) {u : MicroOp} (hu : s.currentOp = some u)
    (hf : u.isFinish = false) : (execMicro u s).nextPhase.Running i := by
  have hsame := execMicro_sameOperands u s
  have heff := execMicro_effect u s
  have hwf := hr.shape.wf
  obtain ⟨_, _, hlen, _⟩ := (programWf_iff _).mp hwf
  have hnext : s.phase.toNat + 1 < s.prog.length := by
    have := hr.phase
    have := mt (isFinish_iff_last hwf hu).mpr (by simp [hf])
    omega
  have hphase : (execMicro u s).nextPhase.phase.toNat = s.phase.toNat + 1 := by
    simp only [State.nextPhase_phase, hsame.phase, BitVec.toNat_add, BitVec.toNat_ofNat]
    omega
  have hprog : (execMicro u s).nextPhase.prog = s.prog := hsame.prog
  obtain ⟨m, hm, hmode⟩ := hr.mode
  refine ⟨?_, ?_, ?_, ?_, fun v hv => ?_, ?_, m, hm, ?_⟩
  · exact hsame.cmd ▸ hr.cmd
  · rw [← hr.bound]
    exact State.lenExceeds_congr _ hsame.len
  · rw [hprog, hr.prog]
    exact (programOf_congr i hsame.id hsame.len hsame.txbuf).symm
  · rw [hphase, hprog]
    exact hnext
  · rw [State.currentOp, hphase, hprog] at hv
    rcases hr.shape.stageBound_next hu hv with h16 | rfl
    · exact h16 ▸ hr.stage_execMicro_le hs hu
    · rcases heff.stage with ⟨hne, _⟩ | ⟨m, hread, hle⟩
      · exact absurd rfl (hne _)
      · cases hread
        exact hle
  · rw [hphase, hprog, take_succ hu, baudAfter_append, ← hr.baud]
    exact heff.baudSet
  · rw [hphase, hprog, take_succ hu, modeAfter_append, ← hmode]
    exact heff.modeSet

end State.Running

theorem State.Inv.of_engineStep {s t : State} (h : s.Inv) (hb : s.busy = true) (ht : engineStep s = .next t) :
    t.Inv := by
  obtain ⟨i, hr⟩ := h.running hb
  obtain ⟨u, hu, ⟨hf, rfl⟩ | ⟨hf, rfl⟩⟩ := engineStep_cases ht
  · refine .of_idle (hr.legal_execMicro h.legal hu) ?_ (hr.idle_execMicro_finish hu hf)
    rcases execMicro_status u s with ⟨hf', _⟩ | ⟨_, r, _, hst⟩
    · simp [hf] at hf'
    · exact State.busy_of_status hst
  · have hl := hr.legal_execMicro h.legal hu
    refine .of_running (i := i) (hl.of_cfg rfl rfl hl.ident hl.status hl.stage) ?_
      (hr.nextPhase_execMicro h.legal.stage hu hf)
    rcases execMicro_status u s with ⟨_, hst⟩ | ⟨hf', _⟩
    · exact (State.busy_congr hst).trans hb
    · simp [hf] at hf'

/-- Settles O46, for every pair of straps. -/
theorem resetHasInv : Obligations.ResetHasInv :=
  ⟨State.resetWith_inv, State.resetWith_inv _ _⟩

/-- Settles O45, by who moves in the step. -/
theorem everyStepKeepsInv : Obligations.EveryStepKeepsInv := by
  intro s t h ht
  rcases step_cases ht with ⟨_, _, rfl⟩ | ⟨u, hu, ht⟩ | ⟨i, u, hu, ht⟩
  · exact h
  · rw [hu.eq_setEnv] at ht
    exact (h.setEnv u.env).of_engineStep hu.1 ht
  · rw [hu.eq_setEnv] at ht
    exact (h.setEnv u.env).of_inputStep ht

end Sys2Proof.Machine
end

section
/-! SUPPORT. What the invariant says of BAUD_SET and MODE_SET, what a step that is no reset leaves alone, idle writes, accepted
programs, and the reset state. -/

namespace Sys2Proof.Machine

/-! ### BAUD_SET and MODE_SET under the invariant -/

/-- Settles O47: a running command's BAUD_SET is what its program has asked for so far, and an idle block's is NOMINAL. -/
theorem breakBaudOnlyInBreak : Obligations.BreakBaudOnlyInBreak := by
  intro s h hbaud
  cases hb : s.busy with
  | false => simp [(h.idle hb).baud] at hbaud
  | true =>
    obtain ⟨i, hr⟩ := h.running hb
    obtain ⟨h2, h4, hphase⟩ := hr.shape.of_baudAfter_take_eq_breakRate hr.phase (hr.baud ▸ hbaud)
    exact ⟨rfl, h2, h4, by bv_omega⟩

/-- Settles O48: a running command's MODE_SET is what its program has asked for so far, and an idle block's is not Normal. -/
theorem normalModeOnlyInBracket : Obligations.NormalModeOnlyInBracket := by
  intro s h hmode
  cases hb : s.busy with
  | false => exact absurd hmode (h.idle hb).mode
  | true =>
    obtain ⟨i, hr⟩ := h.running hb
    obtain ⟨m, hm, hafter⟩ := hr.mode
    exact ⟨rfl, hr.shape.of_modeAfter_take_eq_normal hr.phase hm (hafter ▸ hmode)⟩

/-! ### Steps that are no reset -/

/-- Settles O40: neither the engine nor a host write reaches CFG and BOUND_PID. -/
theorem roleFixedBetweenResets : Obligations.RoleFixedBetweenResets := by
  intro s t ht hr
  rcases step_cases_of_not_resetNext ht hr with ⟨e, rfl⟩ | ⟨_, e, he⟩ | ⟨_, a, v, e, _, hw⟩
  · exact ⟨rfl, rfl⟩
  · obtain ⟨u, _, ⟨_, rfl⟩ | ⟨_, rfl⟩⟩ := engineStep_cases he
    all_goals
      have hsame := execMicro_sameOperands u (s.setEnv e)
      exact ⟨hsame.cfg, hsame.boundPid⟩
  · have hsame := SameOutsideHostReach.of_hostWrite hw
    exact ⟨hsame.cfg, hsame.boundPid⟩

/-- Settles O41: a micro-op appends at most one event, and nothing else touches HIST. -/
theorem historyOnlyGrows : Obligations.HistoryOnlyGrows := by
  intro s t ht hr
  rcases step_cases_of_not_resetNext ht hr with ⟨e, rfl⟩ | ⟨hb, e, he⟩ | ⟨_, a, v, e, _, hw⟩
  · exact .inl rfl
  · obtain ⟨u, _, ⟨_, rfl⟩ | ⟨_, rfl⟩⟩ := engineStep_cases he
    all_goals exact (execMicro_hist u (s.setEnv e)).imp_right fun h => ⟨hb, h⟩
  · exact .inl (SameOutsideHostReach.of_hostWrite hw).hist

/-- Settles O39: of the micro-ops only a receive finish that ends with OK changes RXBUF, and no host write does. -/
theorem rxbufOnlyOnSuccess : Obligations.RxbufOnlyOnSuccess := by
  intro s t ht hr hne
  rcases step_cases_of_not_resetNext ht hr with ⟨e, rfl⟩ | ⟨hb, e, he⟩ | ⟨_, a, v, e, _, hw⟩
  · exact absurd rfl hne
  · obtain ⟨u, hu, ht'⟩ := engineStep_cases he
    have hcur : s.currentOp = some u := hu
    rcases (execMicro_effect u (s.setEnv e)).rxbuf with hsame | ⟨⟨n, hn⟩, hst⟩
    · rcases ht' with ⟨_, rfl⟩ | ⟨_, rfl⟩ <;> exact absurd hsame hne
    · refine ⟨hb, ⟨n, by simpa [hcur] using hn⟩, ?_⟩
      rcases ht' with ⟨_, rfl⟩ | ⟨_, rfl⟩ <;> exact hst
  · exact absurd (SameOutsideHostReach.of_hostWrite hw).rxbuf hne

/-- A host write that makes an idle block busy starts the program of the command written to CMD (R78). -/
theorem start_of_hostWrite {s t : State} {a : Addr} {v : Byte} (h : hostWrite a v s = .next t) (hb : s.busy = false)
    (ht : t.busy = true) :
    a = 0x02#6 ∧ ∃ i, decodeCommand v = .ok i ∧ t.prog = programOf i s ∧ t.phase = 0#4 := by
  rcases hostWrite_cases h with rfl | ⟨_, ha, i, hi, he⟩ | ⟨_, _, _, rfl⟩ | ⟨_, _, rfl⟩
  · simp [hb] at ht
  · rw [exec_eq_accept] at he
    rcases acceptCommand_cases he with ⟨hb', _⟩ | ⟨_, _, rfl⟩ | ⟨_, _, rfl⟩
    · simp [hb] at hb'
    · simp at ht
    · exact ⟨ha, i, hi, rfl, rfl⟩
  · simp at ht
  · rw [State.busy_congr (s.writeReg_sameButOperands a v).status, hb] at ht
    cases ht

/-- Settles O44: the engine ends a command by its FINISH alone, and only an idle host write starts one. -/
theorem busyChangesOnlyAtAcceptanceAndFinish : Obligations.BusyChangesOnlyAtAcceptanceAndFinish := by
  intro s t ht hr
  rcases step_cases_of_not_resetNext ht hr with ⟨e, rfl⟩ | ⟨hb, e, he⟩ | ⟨hb, a, v, e, htakes, hw⟩
  · exact ⟨fun hb hb' => by simp [hb] at hb', fun hb hb' => by simp [hb] at hb'⟩
  · refine ⟨fun _ hb' => ?_, fun h => by simp [hb] at h⟩
    obtain ⟨u, hu, ⟨hf, _⟩ | ⟨hf, rfl⟩⟩ := engineStep_cases he
    · exact ⟨u, hu, hf⟩
    · rcases execMicro_status u (s.setEnv e) with ⟨_, hst⟩ | ⟨hf', _⟩
      · rw [State.nextPhase_busy, State.busy_congr hst, State.setEnv_busy, hb] at hb'
        cases hb'
      · simp [hf] at hf'
  · refine ⟨fun h => by simp [hb] at h, fun _ hb' => ?_⟩
    obtain ⟨rfl, i, hi, hprog, hphase⟩ := start_of_hostWrite hw hb hb'
    exact ⟨v, i, _, htakes, hi, hprog.trans (programOf_congr i rfl rfl rfl), hphase⟩

/-! ### Idle writes, accepted programs, reset -/

/-- Settles O7: each of the three writes is a register write, whose effect and frame are the rules above. -/
theorem idleWritesStore : Obligations.IdleWritesStore := by
  intro s v hb
  refine ⟨⟨_, hostWrite_idle hb (by decide) v, rfl, ?_, fun a ha => State.readReg_writeReg_of_ne ha v s⟩,
    ⟨_, hostWrite_idle hb (by decide) v, rfl, rfl, fun a ha => State.readReg_writeReg_of_ne ha v s⟩,
    fun i hi w hw => ⟨_, hostWrite_idle hb (by rintro rfl; simp at hw; omega) v, State.writeReg_txbuf hi hw v s, ?_,
      fun a ha => State.readReg_writeReg_of_ne ha v s⟩⟩
  · simp [BitVec.and_assoc]
  · obtain rfl : i = w.toNat - 0x10 := by omega
    simp [State.writeReg_txbuf hi hw, State.readReg_txbuf _ (a := w) (by omega)]

/-- Settles O30: acceptance starts the command's program within its bound, which has one of the five shapes. -/
theorem acceptedProgramsWellFormed : Obligations.AcceptedProgramsWellFormed := by
  intro i s t hb he ht
  rw [exec_eq_accept] at he
  rcases acceptCommand_cases he with ⟨hb', _⟩ | ⟨_, _, rfl⟩ | ⟨_, hbound, rfl⟩
  · simp [hb] at hb'
  · simp at ht
  · refine ⟨(programOf_shape hbound).wf, ?_⟩
    cases i <;> simp [programOf, txFrameProgram, txHeaderProgram, txResponseProgram, txRawProgram, rxFrameProgram,
      rxRawProgram, wakeProgram, transmitProgram, bracket, breakOps]

/-- Settles O1: each field of the reset state is written out in its definition. -/
theorem resetState : Obligations.ResetState :=
  ⟨fun _ => ⟨rfl, rfl, rfl, rfl⟩,
    fun _ _ => ⟨rfl, rfl, rfl, rfl, fun _ _ => ⟨Vector.getElem_replicate _, Vector.getElem_replicate _⟩,
      rfl, rfl, rfl, rfl, rfl, rfl, rfl⟩, rfl⟩

end Sys2Proof.Machine
end

section
/-! SUPPORT. The host's register accesses (20_memory.md): what each address answers, the writes that have no effect, the refused
widths, and what a running command keeps whoever moves. -/

namespace Sys2Proof.Machine

/-! ### Reads -/

/-- A host read changes nothing but the record of answers (R45). -/
theorem inputStep_read (a : Addr) (s : State) :
    inputStep (.read a) s = .next { s with env := { s.env with reads := s.env.reads ++ [(a, s.readReg a)] } } := rfl

/-- Settles O4: the answer is what the address reads, and the address map gives it range by range. -/
theorem hostReadAnswers : Obligations.HostReadAnswers := by
  intro s u a hu
  refine ⟨s.readReg a, ?_, ?_, ?_, ?_, ?_, ?_, ?_, fun h => s.readReg_reserved (by omega), fun i hi ha => ?_,
    fun i hi ha => ?_, fun h => s.readReg_reserved (.inr h)⟩
  · have hread : u.readReg a = s.readReg a := by rw [hu.eq_setEnv]; rfl
    rw [step_of_takes hu, inputStep_read, hread]
  iterate 6 (rintro rfl; simp)
  · obtain rfl : i = a.toNat - 0x10 := by omega
    exact s.readReg_txbuf (by omega)
  · obtain rfl : i = a.toNat - 0x20 := by omega
    exact s.readReg_rxbuf (by omega)

/-! ### Writes without effect -/

/-- While BUSY = 1 a host write of any byte to any address has no effect (R46). -/
theorem hostWrite_busy {s : State} (hb : s.busy = true) (a : Addr) (v : Byte) : hostWrite a v s = .next s := by
  obtain ⟨t, h⟩ := hostWrite_next a v s
  rcases hostWrite_cases h with rfl | ⟨hb', _⟩ | ⟨hb', _⟩ | ⟨hb', _⟩
  · exact h
  all_goals simp [hb] at hb'

/-- While BUSY = 1 a command is not accepted (R46). -/
theorem exec_busy {s : State} (hb : s.busy = true) (i : Instr) : exec i s = .next s := by
  rw [exec_eq_accept]
  simp [acceptCommand, hb]

/-- No address but CMD, ID, LEN and TXBUF's takes a host write, idle or busy (R42, R43). -/
theorem hostWrite_of_not_writable {a : Addr} (hcmd : a ≠ 0x02#6) (hid : a ≠ 0x03#6) (hlen : a ≠ 0x04#6)
    (htx : ¬(0x10 ≤ a.toNat ∧ a.toNat < 0x20)) (v : Byte) (s : State) : hostWrite a v s = .next s := by
  cases hb : s.busy with
  | true => exact hostWrite_busy hb a v
  | false =>
    rw [hostWrite_idle hb hcmd]
    rcases s.writeReg_cases a v with ⟨h, _⟩ | ⟨h, _⟩ | ⟨h, _⟩ | ⟨_, _, _, h⟩
    · exact absurd h hid
    · exact absurd h hlen
    · exact absurd h htx
    · rw [h]

/-- Settles O5: a reserved address reads 0 and is none of the writable ones. -/
theorem reservedAddresses : Obligations.ReservedAddresses := by
  intro s a ha
  refine ⟨by rw [inputStep_read, s.readReg_reserved (by omega)], fun v => ?_⟩
  exact hostWrite_of_not_writable (by bv_omega) (by bv_omega) (by bv_omega) (by omega) v s

/-- Settles O6: the read-only addresses are none of the writable ones, and reads mask the reserved bits. -/
theorem readOnlyRegisters : Obligations.ReadOnlyRegisters := by
  refine ⟨fun s a v ha => ?_, fun s v hb => hostWrite_idle hb (by decide) v, fun s => ⟨?_, ?_⟩⟩
  · exact hostWrite_of_not_writable (by bv_omega) (by bv_omega) (by bv_omega) (by bv_omega) v s
  · simp [BitVec.and_assoc]
  · simp [BitVec.and_assoc]

/-- Settles O8, by the two rules of a busy block and the rule of reads. -/
theorem busyIgnoresWrites : Obligations.BusyIgnoresWrites :=
  fun s hb => ⟨hostWrite_busy hb, exec_busy hb, fun a => inputStep_read a s⟩

/-- Settles O9: the step is the outside's action, which answers the refusal. -/
theorem otherWidthRefused : Obligations.OtherWidthRefused :=
  fun _ _ _ hu => step_of_takes hu

/-! ### What a running command keeps -/

/-- Settles O42: while BUSY = 1 only the engine reaches the block, and no micro-op changes an operand or PROG. -/
theorem operandsStableWhileBusy : Obligations.OperandsStableWhileBusy := by
  intro s t hb ht hr
  rcases step_cases_of_not_resetNext ht hr with ⟨e, rfl⟩ | ⟨_, e, he⟩ | ⟨hb', _⟩
  · exact ⟨rfl, rfl, rfl, rfl, rfl⟩
  · obtain ⟨u, _, ⟨_, rfl⟩ | ⟨_, rfl⟩⟩ := engineStep_cases he
    all_goals
      have hsame := execMicro_sameOperands u (s.setEnv e)
      exact ⟨hsame.cmd, hsame.id, hsame.len, hsame.txbuf, hsame.prog⟩
  · simp [hb] at hb'

/-- Settles O43: an outside's action that is neither a reset nor an idle write changes the outside alone. -/
theorem outsideCannotDisturbCommand : Obligations.OutsideCannotDisturbCommand := by
  intro s u t i hb hu hi ht
  rw [step_of_takes hu, hu.eq_setEnv] at ht
  rcases inputStep_cases ht with ⟨role, sid, h, _⟩ | ⟨e, rfl⟩ | ⟨hb', _⟩
  · exact absurd h (hi role sid)
  · rfl
  · simp [hb] at hb'

end Sys2Proof.Machine
end

section
/-! SUPPORT. The encodings of 30_encoding.md: the command bytes (R64, R67, R68), the step around them (R78), the transaction
words and the source calls' expansions with POLL (R69). -/

namespace Sys2Proof.Machine

/-! ### The transaction word (R69) -/

section TransactionWord

variable (k : BitVec 2) (a : Addr) (v : Byte)

theorem transactionWord_kind : (k ++ a ++ v).extractLsb' 14 2 = k := by
  rw [BitVec.extractLsb'_append_eq_of_le (by decide)]
  exact BitVec.extractLsb'_append_eq_left

theorem transactionWord_addr : (k ++ a ++ v).extractLsb' 8 6 = a := by
  rw [BitVec.extractLsb'_append_eq_of_le (by decide)]
  exact BitVec.extractLsb'_append_eq_right

theorem transactionWord_data : (k ++ a ++ v).extractLsb' 0 8 = v :=
  BitVec.extractLsb'_append_eq_right

/-- Decoding, field by field: bits 15:14 tell a write from a read, and a read carries no data. -/
theorem decodeTransaction_append :
    decodeTransaction (k ++ a ++ v) =
      if k = 2#2 then some (.write a v) else if k = 0#2 ∧ v = 0#8 then some (.read a) else none := by
  unfold decodeTransaction
  rw [transactionWord_kind, transactionWord_addr, transactionWord_data]

end TransactionWord

/-- Every 16-bit word is made of the three fields. -/
theorem exists_transactionWord (w : BitVec 16) : ∃ (k : BitVec 2) (a : Addr) (v : Byte), w = k ++ a ++ v := by
  refine ⟨w.extractLsb' 14 2, w.extractLsb' 8 6, w.extractLsb' 0 8, ?_⟩
  rw [BitVec.extractLsb'_append_extractLsb'_eq_extractLsb' (by rfl),
    BitVec.extractLsb'_append_extractLsb'_eq_extractLsb' (by rfl)]
  exact BitVec.extractLsb'_eq_self.symm

theorem encodeTransaction_of_decodeTransaction {w : BitVec 16} {i : Input} (h : decodeTransaction w = some i) :
    encodeTransaction i = some w := by
  obtain ⟨k, a, v, rfl⟩ := exists_transactionWord w
  rw [decodeTransaction_append] at h
  split at h
  case isTrue hwrite =>
    obtain rfl := hwrite
    cases h
    rfl
  case isFalse =>
    split at h
    case isTrue hread =>
      obtain ⟨rfl, rfl⟩ := hread
      cases h
      rfl
    case isFalse => cases h

/-- Settles O11: a word is its three fields, and decoding goes by them. -/
theorem transactionWordRoundTrip : Obligations.TransactionWordRoundTrip :=
  ⟨fun a => decodeTransaction_append 0#2 a 0#8, fun a v => decodeTransaction_append 2#2 a v,
    fun _ _ => encodeTransaction_of_decodeTransaction, rfl, rfl⟩

/-! ### The expansions of the source calls (R69) -/

theorem payloadWrites_eq_map_range (p : List Byte) (i : Nat) :
    payloadWrites i p =
      (List.range p.length).map fun j => .write (BitVec.ofNat 6 (0x10 + (i + j))) (p.getD j 0x00#8) := by
  induction p generalizing i with
  | nil => rfl
  | cons b bs ih =>
    have hindex (j : Nat) : i + 1 + j = i + (j + 1) := by omega
    simp only [payloadWrites, ih, hindex, List.length_cons, List.range_succ_eq_map, List.map_cons, List.map_map]
    rfl

/-- A payload's writes start at TXBUF's first address. -/
theorem payloadWrites_zero (p : List Byte) :
    payloadWrites 0 p =
      (List.range p.length).map fun i => .write (BitVec.ofNat 6 (0x10 + i)) (p.getD i 0x00#8) := by
  simpa only [Nat.zero_add] using payloadWrites_eq_map_range p 0

theorem State.lastReadOk_iff (s : State) : s.lastReadOk = true ↔ s.env.reads.getLast? = some (0x05#6, 0x01#8) :=
  beq_iff_eq

/-- The reads of a receive expansion come before what is pending. -/
theorem hostReadRxIfOk_of_ok {s : State} (h : s.lastReadOk = true) (n : Nat) :
    hostReadRxIfOk n s = s.pushInputs (rxReads n) :=
  if_pos h

theorem hostReadRxIfOk_of_not_ok {s : State} (h : ¬s.lastReadOk = true) (n : Nat) : hostReadRxIfOk n s = s :=
  if_neg h

/-- An action taken off what is pending leaves every register as it was. -/
theorem Takes.readReg_eq {s u : State} {i : Input} (h : Takes s i u) (a : Addr) : u.readReg a = s.readReg a := by
  rw [h.eq_setEnv]
  rfl

/-- A round of POLL that finds BUSY = 1 is one read of STATUS, and POLL comes next again. -/
theorem hostPoll_of_busy {s : State} (h : (s.readReg 0x05#6).getLsbD 7 = true) :
    hostPoll s = (s.hostRead 0x05#6).pushInputs [.poll] :=
  if_pos h

/-- A round of POLL that finds BUSY = 0 is one read of STATUS. -/
theorem hostPoll_of_idle {s : State} (h : (s.readReg 0x05#6).getLsbD 7 = false) : hostPoll s = s.hostRead 0x05#6 :=
  if_neg (Bool.eq_false_iff.mp h)

theorem step_of_takes_poll {s u : State} (hu : Takes s .poll u) : step s = .next (hostPoll u) :=
  step_of_takes hu

/-- Settles O12: the payload writes by induction on the payload, the conditional reads and POLL by what the last answer is. -/
theorem callExpansions : Obligations.CallExpansions := by
  refine ⟨fun ident p => ?_, fun p => ?_, fun p => ?_, fun _ => rfl, fun _ => ⟨rfl, rfl⟩, rfl, fun s n h => ?_,
    fun s n h => ?_, fun s u hu h => ?_, fun s u hu h => ?_⟩
  iterate 3
    rw [← payloadWrites_zero]
    rfl
  · rw [hostReadRxIfOk_of_ok (s.lastReadOk_iff.mpr h)]
    rfl
  · exact hostReadRxIfOk_of_not_ok (mt s.lastReadOk_iff.mp h) n
  · have hread := hu.readReg_eq 0x05#6
    rw [step_of_takes_poll hu, hostPoll_of_busy (hread ▸ h), ← hread]
    rfl
  · have hread := hu.readReg_eq 0x05#6
    rw [step_of_takes_poll hu, hostPoll_of_idle (hread ▸ h), ← hread]
    rfl

/-! ### The step around a decoded command (R64, R78, R79) -/

/-- A host write to CMD of a command's byte runs that command. -/
theorem hostWrite_cmd {v : Byte} {i : Instr} (h : decodeCommand v = .ok i) (s : State) :
    hostWrite 0x02#6 v s = exec i s := by
  simp only [hostWrite, h, if_true]

/-- An input placed next is taken next, from the state on which it was placed. -/
theorem takes_placeNext (s : State) (i : Input) : Takes (s.placeNext i) i s := by
  unfold State.placeNext
  cases hb : s.busy with
  | false => exact ⟨s.env.inputs, rfl, .inl ⟨hb, rfl⟩⟩
  | true => exact ⟨s.env.inputs, rfl, .inr (.inl ⟨hb, s.env.turns, rfl, rfl⟩)⟩

/-- A table word that decodes to a command has that command's byte as its low byte. -/
theorem decodeCommand_of_decodeTableWord {nbits w : Nat} {i : Instr} (h : decodeTableWord nbits w = some i) :
    decodeCommand (BitVec.ofNat 8 w) = .ok i := by
  unfold decodeTableWord at h
  split at h
  case isTrue =>
    cases hv : decodeCommand (BitVec.ofNat 8 w) with
    | ok j => simpa [decode, hv, Except.map] using h
    | error e => simp [decode, hv, Except.map] at h
  case isFalse => cases h

theorem step_of_waiting {s : State} (hi : s.env.inputs = []) (hb : s.busy = false) : step s = .next s := by
  simp [step, blockStep, hi, hb]

/-- Settles O3: each step is the move of the agent whose turn it is, and a write to CMD runs the command its byte decodes to. -/
theorem stepRunsDecodedCommand : Obligations.StepRunsDecodedCommand := by
  refine ⟨fun s u v i hu hv => ?_, fun s w i hw => ?_, fun _ _ _ _ hu => step_of_takes hu,
    fun _ _ hu => step_of_engineMoves hu, fun _ hi hb => step_of_waiting hi hb⟩
  · exact (step_of_takes hu).trans (hostWrite_cmd hv u)
  · exact (step_of_takes (takes_placeNext s _)).trans (hostWrite_cmd (decodeCommand_of_decodeTableWord hw) s)

/-! ### The command bytes (R64, R67, R68) -/

theorem decode_encode_append (i : Instr) (rest : List Byte) : decode (encode i ++ rest) = .ok (i, rest) := by
  simp [encode, decode, decodeCommand_opcode, Except.map]

theorem decodeCommand_of_reserved {v : Byte} (h : v = 0x00#8 ∨ 0x08 ≤ v.toNat) :
    decodeCommand v = .error (.reservedCommand v) := by
  unfold decodeCommand
  split
  case h_8 => rfl
  all_goals bv_omega

theorem opcode_of_decodeCommand {v : Byte} {i : Instr} (h : decodeCommand v = .ok i) : opcode i = v := by
  unfold decodeCommand at h
  split at h
  case h_8 => cases h
  all_goals
    rename_i hv
    cases h
    exact BitVec.eq_of_toNat_eq hv.symm

/-- Settles O10: the encoder's and the decoder's tables are inverse, and the decoder's last row rejects every other byte. -/
theorem commandBytes : Obligations.CommandBytes :=
  ⟨rfl, rfl, rfl, rfl, rfl, rfl, rfl, fun i rest => ⟨rfl, decode_encode_append i rest⟩,
    fun _ _ => opcode_of_decodeCommand, fun _ => decodeCommand_of_reserved⟩

end Sys2Proof.Machine
end

section
/-! SUPPORT. The frame functions of 40_frame_functions.md: parity and the identifier byte (R70 to R72, R77), the checksum
(R73, R74, R76). -/

namespace Sys2Proof.Machine

/-! ### Parity and the identifier byte (R70 to R72, R77) -/

/-- PARITY has two free bits (R70): each of the four values they take is read off. -/
theorem parity_spec (id : Ident) :
    (parity id)[6] = parityP0 id ∧ (parity id)[7] = parityP1 id ∧ parity id &&& 0x3F#8 = 0x00#8 := by
  unfold parity
  cases parityP0 id <;> cases parityP1 id <;> decide

@[simp] theorem parity_getElem_six (id : Ident) : (parity id)[6] = parityP0 id := (parity_spec id).1

@[simp] theorem parity_getElem_seven (id : Ident) : (parity id)[7] = parityP1 id := (parity_spec id).2.1

@[simp] theorem parity_getLsbD_of_lt (id : Ident) {i : Nat} (hi : i < 6) : (parity id).getLsbD i = false := by
  simp [parity, hi]

/-- PARITY is 0 for the identifiers whose two equations both give 0 (R71's list). -/
theorem parity_eq_zero_iff_mem (id : Ident) :
    parity id = 0x00#8 ↔
      id ∈ [0x03#6, 0x06#6, 0x08#6, 0x0D#6, 0x11#6, 0x14#6, 0x1A#6, 0x1F#6,
            0x20#6, 0x25#6, 0x2B#6, 0x2E#6, 0x32#6, 0x37#6, 0x39#6, 0x3C#6] := by
  revert id
  decide

theorem pid_getLsbD_of_lt (id : Ident) {i : Nat} (hi : i < 6) : (pid id).getLsbD i = id.getLsbD i := by
  rw [pid, BitVec.getLsbD_or, parity_getLsbD_of_lt id hi, Bool.or_false, BitVec.getLsbD_setWidth]
  simp [Nat.lt_trans hi]

@[simp] theorem pid_getElem_six (id : Ident) : (pid id)[6] = parityP0 id := by
  simp [pid]

@[simp] theorem pid_getElem_seven (id : Ident) : (pid id)[7] = parityP1 id := by
  simp [pid]

/-- The identifier byte's bits 5:0 return the identifier (R71). -/
@[simp] theorem pid_setWidth (id : Ident) : (pid id).setWidth 6 = id := by
  ext i hi
  rw [BitVec.getElem_setWidth, pid_getLsbD_of_lt id hi, BitVec.getLsbD_eq_getElem]

theorem pid_injective {id id' : Ident} (h : pid id = pid id') : id = id' := by
  rw [← pid_setWidth id, h, pid_setWidth]

theorem pid_eq_self_iff (id : Ident) : pid id = id.setWidth 8 ↔ parity id = 0x00#8 := by
  constructor
  · intro h
    apply BitVec.eq_of_getLsbD_eq
    intro i _
    by_cases hlow : i < 6
    · simp [hlow]
    · have hbit := congrArg (·.getLsbD i) h
      simpa [pid, BitVec.getLsbD_of_ge id i (not_lt.mp hlow)] using hbit
  · intro h
    rw [pid, h, BitVec.or_zero]

@[simp] theorem parityOk_pid (id : Ident) : parityOk (pid id) = true := by
  simp [parityOk]

theorem parityOk_iff_exists (b : Byte) : parityOk b = true ↔ ∃ id : Ident, b = pid id :=
  ⟨fun h => ⟨b.setWidth 6, eq_of_beq h⟩, fun ⟨_, hid⟩ => hid ▸ parityOk_pid _⟩

/-- The identifier's bits pass unseen: what PARITY_OK compares is the two parity bits (R72). -/
theorem parityOk_iff (b : Byte) :
    parityOk b = true ↔ parityP0 (b.setWidth 6) = b[6] ∧ parityP1 (b.setWidth 6) = b[7] := by
  rw [parityOk, beq_iff_eq]
  constructor
  · intro h
    exact ⟨(pid_getElem_six _).symm.trans (congrArg (·[6]) h.symm),
      (pid_getElem_seven _).symm.trans (congrArg (·[7]) h.symm)⟩
  · rintro ⟨h6, h7⟩
    apply BitVec.eq_of_getLsbD_eq
    intro i _
    obtain hlow | rfl | rfl : i < 6 ∨ i = 6 ∨ i = 7 := by omega
    · simp [pid_getLsbD_of_lt, hlow]
    · simpa using h6.symm
    · simpa using h7.symm

/-- P0's equation (R62) with bit 6 brought to its side: 0 on an identifier byte. -/
def parityCheck0 (b : Byte) : Bool := b[0] ^^ b[1] ^^ b[2] ^^ b[4] ^^ b[6]

/-- P1's equation (R62) with bit 7 and the complement brought to their side: 1 on an identifier byte. -/
def parityCheck1 (b : Byte) : Bool := b[1] ^^ b[3] ^^ b[4] ^^ b[5] ^^ b[7]

theorem parityCheck0_xor (b d : Byte) : parityCheck0 (b ^^^ d) = (parityCheck0 b ^^ parityCheck0 d) := by
  simp only [parityCheck0, BitVec.getElem_xor, Bool.xor_assoc, Bool.xor_left_comm]

theorem parityCheck1_xor (b d : Byte) : parityCheck1 (b ^^^ d) = (parityCheck1 b ^^ parityCheck1 d) := by
  simp only [parityCheck1, BitVec.getElem_xor, Bool.xor_assoc, Bool.xor_left_comm]

theorem parityCheck0_eq (b : Byte) : parityCheck0 b = (parityP0 (b.setWidth 6) ^^ b[6]) := by
  simp [parityCheck0, parityP0]

theorem parityCheck1_eq (b : Byte) : parityCheck1 b = !(parityP1 (b.setWidth 6) ^^ b[7]) := by
  simp [parityCheck1, parityP1]

theorem parityOk_iff_checks (b : Byte) : parityOk b = true ↔ parityCheck0 b = false ∧ parityCheck1 b = true := by
  simp [parityOk_iff, parityCheck0_eq, parityCheck1_eq]

/-- Each bit of the identifier byte enters a parity equation (R77). -/
theorem parityCheck_bit (k : Fin 8) :
    parityCheck0 (0x01#8 <<< k.val) = true ∨ parityCheck1 (0x01#8 <<< k.val) = true := by
  revert k
  decide

theorem parityOk_xor_bit {b : Byte} (h : parityOk b = true) (k : Fin 8) :
    parityOk (b ^^^ (0x01#8 <<< k.val)) = false := by
  obtain ⟨h0, h1⟩ := (parityOk_iff_checks b).mp h
  rw [Bool.eq_false_iff, ne_eq, parityOk_iff_checks, parityCheck0_xor, parityCheck1_xor, h0, h1]
  obtain hk | hk := parityCheck_bit k <;> simp [hk]

/-- Settles O13: two bits are placed above six 0s. -/
theorem parityBits : Obligations.ParityBits :=
  ⟨parity_spec, rfl, rfl, rfl⟩

/-- Settles O14: bits 5:0 of the identifier byte give the identifier back, and the bits above them are PARITY's. -/
theorem identifierByte : Obligations.IdentifierByte :=
  ⟨fun id => ⟨rfl, pid_setWidth id⟩, fun _ _ => pid_injective,
    fun id => ⟨pid_eq_self_iff id, parity_eq_zero_iff_mem id⟩, rfl⟩

/-- Settles O15: a byte that passes is the identifier byte of its own bits 5:0. -/
theorem parityOkExactlyIdentifierBytes : Obligations.ParityOkExactlyIdentifierBytes :=
  ⟨parityOk_iff_exists, by decide, rfl, rfl, rfl⟩

/-- Settles O16: each bit of an identifier byte enters a parity equation, so no single flip goes unseen. -/
theorem identifierByteLaws : Obligations.IdentifierByteLaws :=
  ⟨fun id => ⟨pid_setWidth id, parityOk_pid id⟩, fun id => parityOk_xor_bit (parityOk_pid id), by decide⟩

/-! ### The checksum (R73, R74, R76) -/

theorem byteSum_append_cons (p q : List Byte) (b : Byte) :
    byteSum (p ++ b :: q) = byteSum p + (b.toNat + byteSum q) := by
  simp [byteSum]

theorem byteSum_perm {p q : List Byte} (h : p.Perm q) : byteSum p = byteSum q :=
  (h.map _).sum_eq

/-- The order of the payload does not matter (R76). -/
theorem checksum_perm {p q : List Byte} (h : p.Perm q) : checksum p = checksum q := by
  rw [checksum, byteSum_perm h, checksum]

theorem checksum_toNat (p : List Byte) : (checksum p).toNat = 255 - byteSum p % 256 := by
  rw [checksum, BitVec.toNat_ofNat]
  exact Nat.mod_eq_of_lt (by omega)

theorem checksum_eq_not (p : List Byte) : checksum p = ~~~(BitVec.ofNat 8 (byteSum p)) := by
  apply BitVec.eq_of_toNat_eq
  rw [checksum_toNat, BitVec.toNat_not, BitVec.toNat_ofNat]

theorem checksum_of_sum_mod_eq_zero {p : List Byte} (h : byteSum p % 256 = 0) : checksum p = 0xFF#8 := by
  rw [checksum, h]

theorem checksumOk_iff (p : List Byte) (c : Byte) : checksumOk p c = true ↔ c = checksum p := beq_iff_eq

/-- A frame's data and checksum byte sum to 255 modulo 256 (R74). -/
theorem checksumOk_iff_sum (p : List Byte) (c : Byte) :
    checksumOk p c = true ↔ (byteSum p + c.toNat) % 256 = 255 := by
  rw [checksumOk_iff, ← BitVec.toNat_inj, checksum_toNat]
  omega

/-- One data byte is determined by the others and the checksum byte. -/
theorem eq_of_checksumOk {p q : List Byte} {b d c : Byte} (hb : checksumOk (p ++ b :: q) c = true)
    (hd : checksumOk (p ++ d :: q) c = true) : b = d := by
  rw [checksumOk_iff_sum, byteSum_append_cons] at hb hd
  bv_omega

/-- Flipping one bit of a byte changes it. -/
theorem xor_bit_ne (b : Byte) {k : Nat} (hk : k < 8) : b ^^^ (0x01#8 <<< k) ≠ b := fun h => by
  have hbit := congrArg (·.getLsbD k) h
  simp [hk] at hbit

theorem checksumOk_xor_bit {p : List Byte} {c : Byte} {k : Nat} (hk : k < 8) (h : checksumOk p c = true) :
    checksumOk p (c ^^^ (0x01#8 <<< k)) = false := by
  rw [checksumOk_iff] at h
  rw [Bool.eq_false_iff, ne_eq, checksumOk_iff, ← h]
  exact xor_bit_ne c hk

theorem checksumOk_data_xor_bit {p q : List Byte} {b c : Byte} {k : Nat} (hk : k < 8)
    (h : checksumOk (p ++ b :: q) c = true) : checksumOk (p ++ (b ^^^ (0x01#8 <<< k)) :: q) c = false :=
  Bool.eq_false_iff.mpr fun hflip => xor_bit_ne b hk (eq_of_checksumOk hflip h)

/-- Settles O18: both sides of the equivalent form say that the byte completes the sum to 255 modulo 256. -/
theorem checksumVerifier : Obligations.ChecksumVerifier :=
  ⟨fun p c => ⟨checksumOk_iff p c, checksumOk_iff_sum p c⟩, rfl, rfl, rfl, rfl⟩

/-- Settles O19: a checksum byte, and each data byte, is the only one that passes beside the other bytes. -/
theorem checksumLaws : Obligations.ChecksumLaws :=
  ⟨fun p => ⟨checksum p, (checksumOk_iff p _).mpr rfl, fun d => (checksumOk_iff p d).mp⟩,
    fun _ _ _ => checksumOk_xor_bit, fun _ _ _ _ _ => checksumOk_data_xor_bit, rfl, rfl,
    fun _ _ => checksum_perm⟩

/-- Settles O17: the formula never goes below 0, so it is the complement of the sum's low byte. -/
theorem checksumGenerator : Obligations.ChecksumGenerator :=
  ⟨fun p => ⟨checksum_toNat p, checksum_eq_not p, checksum_of_sum_mod_eq_zero⟩, rfl, rfl, rfl, rfl, rfl, rfl⟩

end Sys2Proof.Machine
end

section
/-! SUPPORT. A command's acceptance (R78, R81 to R88, R94 to R97), the engine's step and its micro-ops (R79, R80), and that no
step under the invariant is stuck. -/

namespace Sys2Proof.Machine

/-! ### Acceptance -/

/-- An idle block starts the program of a command within its bound. -/
theorem exec_of_idle {i : Instr} {s : State} (hb : s.busy = false) (hbound : s.lenExceeds (boundOf i) = false) :
    exec i s = .next ((s.setCmd (opcode i)).start (programOf i s)) := by
  rw [exec_eq_accept]
  simp [acceptCommand, hb, hbound]

/-- An idle block refuses a command whose LEN exceeds its bound. -/
theorem exec_of_lenExceeds {i : Instr} {s : State} (hb : s.busy = false) (hbound : s.lenExceeds (boundOf i) = true) :
    exec i s = .next ((s.setCmd (opcode i)).finish .payloadTooLarge) := by
  rw [exec_eq_accept]
  simp [acceptCommand, hb, hbound]

/-- Settles O20: LEN is within the bound, and R81's table gives the program. -/
theorem acceptTxFrame : Obligations.AcceptTxFrame :=
  fun _ hb hlen => exec_of_idle hb (State.lenExceeds_some_false.mpr hlen)

/-- Settles O21: the command has no bound. -/
theorem acceptTxHeader : Obligations.AcceptTxHeader :=
  fun s hb => exec_of_idle hb s.lenExceeds_none

/-- Settles O22: LEN is within the bound, and R81's table gives the program. -/
theorem acceptTxResponse : Obligations.AcceptTxResponse :=
  fun _ hb hlen => exec_of_idle hb (State.lenExceeds_some_false.mpr hlen)

/-- Settles O23: LEN is within the bound, and R81's table gives the program. -/
theorem acceptRxFrame : Obligations.AcceptRxFrame :=
  fun _ hb hlen => exec_of_idle hb (State.lenExceeds_some_false.mpr hlen)

/-- Settles O24: LEN is within the bound of a raw command. -/
theorem acceptTxRaw : Obligations.AcceptTxRaw :=
  fun _ hb hlen => exec_of_idle hb (State.lenExceeds_some_false.mpr hlen)

/-- Settles O25: LEN is within the bound of a raw command. -/
theorem acceptRxRaw : Obligations.AcceptRxRaw :=
  fun _ hb hlen => exec_of_idle hb (State.lenExceeds_some_false.mpr hlen)

/-- Settles O26: the command has no bound. -/
theorem acceptWake : Obligations.AcceptWake :=
  fun s hb => exec_of_idle hb s.lenExceeds_none

/-- Settles O27: each of the five commands has the bound its LEN exceeds. -/
theorem payloadTooLarge : Obligations.PayloadTooLarge := by
  constructor
  · rintro s i hb (rfl | rfl | rfl) hlen <;> exact exec_of_lenExceeds hb (State.lenExceeds_some_true.mpr hlen)
  · rintro s i hb (rfl | rfl) hlen <;> exact exec_of_lenExceeds hb (State.lenExceeds_some_true.mpr hlen)

/-- No command's acceptance stops the machine. -/
theorem exec_next (i : Instr) (s : State) : ∃ t, exec i s = .next t := by
  rw [← hostWrite_cmd (decodeCommand_opcode i)]
  exact hostWrite_next _ _ _

/-- All that a host can read, CMD and STATUS apart, is the same (R41). -/
structure SameButCommand (s t : State) : Prop where
  cfg : t.cfg = s.cfg
  boundPid : t.boundPid = s.boundPid
  id : t.id = s.id
  len : t.len = s.len
  txbuf : t.txbuf = s.txbuf
  rxbuf : t.rxbuf = s.rxbuf

theorem SameButCommand.refl (s : State) : SameButCommand s s := ⟨rfl, rfl, rfl, rfl, rfl, rfl⟩

theorem SameButCommand.trans {s t u : State} (h : SameButCommand s t) (h' : SameButCommand t u) : SameButCommand s u :=
  ⟨h'.cfg.trans h.cfg, h'.boundPid.trans h.boundPid, h'.id.trans h.id, h'.len.trans h.len, h'.txbuf.trans h.txbuf,
    h'.rxbuf.trans h.rxbuf⟩

theorem SameButCommand.readReg_eq {s t : State} (h : SameButCommand s t) (a : Addr) (hcmd : a ≠ 0x02#6)
    (hstatus : a ≠ 0x05#6) : t.readReg a = s.readReg a := by
  rcases addr_cases a with rfl | rfl | rfl | rfl | rfl | rfl | ha | ha | ha
  · simp [h.cfg]
  · simp [h.boundPid]
  · exact absurd rfl hcmd
  · simp [h.id]
  · simp [h.len]
  · exact absurd rfl hstatus
  · simp [State.readReg_txbuf _ ha, h.txbuf]
  · simp [State.readReg_rxbuf _ ha, h.rxbuf]
  · simp [State.readReg_reserved _ ha]

/-- Settles O29: busy, a refusal and a start each leave every other field as it was. -/
theorem acceptanceFrame : Obligations.AcceptanceFrame := by
  intro i s
  obtain ⟨t, ht⟩ := exec_next i s
  have hcases := ht
  rw [exec_eq_accept] at hcases
  refine ⟨t, ht, ?_⟩
  rcases acceptCommand_cases hcases with ⟨_, rfl⟩ | ⟨_, _, rfl⟩ | ⟨_, _, rfl⟩
  all_goals exact ⟨rfl, SameButCommand.readReg_eq ⟨rfl, rfl, rfl, rfl, rfl, rfl⟩⟩

/-! ### The engine's step and its micro-ops -/

/-- The engine runs the micro-op at PHASE (R79). -/
theorem engineStep_of_currentOp {s : State} {u : MicroOp} (hu : s.currentOp = some u) :
    engineStep s = .next (if u.isFinish then execMicro u s else (execMicro u s).nextPhase) := by
  simp only [engineStep, hu]

/-- A micro-op that is no FINISH leaves BUSY as it was (R26). -/
theorem execMicro_busy {u : MicroOp} (hf : u.isFinish = false) (s : State) : (execMicro u s).busy = s.busy := by
  rcases execMicro_status u s with ⟨_, hst⟩ | ⟨hf', _⟩
  · exact State.busy_congr hst
  · simp [hf] at hf'

/-- A FINISH clears BUSY and reports a result (R26, R100). -/
theorem execMicro_finish_status {u : MicroOp} (hf : u.isFinish = true) (s : State) :
    ∃ r, r ≠ .noResult ∧ (execMicro u s).status = statusByte false r := by
  rcases execMicro_status u s with ⟨hf', _⟩ | ⟨_, h⟩
  · simp [hf] at hf'
  · exact h

/-- Settles O31, by whether the micro-op is a FINISH. -/
theorem engineStepRunsMicroOp : Obligations.EngineStepRunsMicroOp := by
  intro s u hb hu
  have hphase := (execMicro_sameOperands u s).phase
  refine ⟨_, engineStep_of_currentOp hu, fun hf => ?_, fun hf => ?_⟩
  · rw [if_neg (by simp [hf]), ← hphase]
    exact ⟨rfl, (execMicro_busy hf s).trans hb⟩
  · obtain ⟨r, _, hst⟩ := execMicro_finish_status hf s
    rw [if_pos hf]
    exact ⟨rfl, hphase, State.busy_of_status hst⟩

/-- FINISH_TX reports what FAIL says (R80). -/
theorem execMicro_finishTx (s : State) :
    execMicro .finishTx s = s.setStatus (if s.fail then 0x02#8 else 0x01#8) := by
  rcases finishTxStep_cases s with ⟨hf, h⟩ | ⟨hf, h⟩ <;> simp only [execMicro, h, hf] <;> rfl

/-- Settles O32, micro-op by micro-op. -/
theorem plainMicroOps : Obligations.PlainMicroOps :=
  fun _ => ⟨fun _ => rfl, fun _ => rfl, rfl, rfl, fun hf => if_pos hf, fun hf => if_neg (Bool.eq_false_iff.mp hf)⟩

/-! ### The ports' answers (R11) -/

/-- A listed answer within the request is the one `TxWrite` gives. -/
theorem State.drawTaken_answer (len : Nat) (s : State) :
    ∃ k e, s.drawTaken len = (k, s.setEnv e) ∧ k ≤ len ∧
      ∀ k' rest, s.env.txAnswers = k' :: rest → k' ≤ len → k = k' ∧ e = { s.env with txAnswers := rest } := by
  unfold State.drawTaken drawFrom
  cases s.env.txAnswers with
  | nil => exact ⟨_, _, rfl, Nat.min_le_right _ _, nofun⟩
  | cons k rest =>
    exact ⟨_, _, rfl, Nat.min_le_right _ _, by rintro _ _ ⟨⟩ hk; exact ⟨Nat.min_eq_left hk, rfl⟩⟩

/-- A listed answer within the request is the one `RxRead` gives. -/
theorem State.drawRx_answer (n : Nat) (s : State) :
    ∃ rx e, s.drawRx n = (rx, s.setEnv e) ∧ rx.length ≤ n ∧
      ∀ rx' rest, s.env.rxAnswers = rx' :: rest → rx'.length ≤ n → rx = rx' ∧ e = { s.env with rxAnswers := rest } := by
  unfold State.drawRx drawFrom
  cases s.env.rxAnswers with
  | nil => exact ⟨_, _, rfl, List.length_take_le _ _, nofun⟩
  | cons rx rest =>
    exact ⟨_, _, rfl, List.length_take_le _ _, by rintro _ _ ⟨⟩ hrx; exact ⟨List.take_of_length_le hrx, rfl⟩⟩

/-- A listed answer is the one `WakePulse` gives. -/
theorem State.drawWake_answer (s : State) :
    ∃ ok e, s.drawWake = (ok, s.setEnv e) ∧
      ∀ ok' rest, s.env.wakeAnswers = ok' :: rest → ok = ok' ∧ e = { s.env with wakeAnswers := rest } := by
  unfold State.drawWake drawFrom
  cases s.env.wakeAnswers with
  | nil => exact ⟨_, _, rfl, nofun⟩
  | cons ok rest => exact ⟨_, _, rfl, by rintro _ _ ⟨⟩; exact ⟨rfl, rfl⟩⟩

/-- After a failed write, a WRITE asks for nothing (R80). -/
theorem writeStep_of_fail {s : State} (hf : s.fail = true) (bs : List Byte) : writeStep bs s = s :=
  if_pos hf

/-- Without a failure a WRITE is one `TxWrite` with the answer drawn, and FAIL if that is short (R80). -/
theorem writeStep_of_not_fail {s : State} (hf : s.fail = false) {bs : List Byte} {k : Nat} {e : Env}
    (hd : s.drawTaken bs.length = (k, s.setEnv e)) :
    writeStep bs s = ((s.setEnv e).emit (.txWrite bs k)).setFail (k != bs.length) := by
  simp [writeStep, hf, hd]

/-- Settles O33: each port's answer is drawn, and a listed one is the one drawn. -/
theorem askingMicroOps : Obligations.AskingMicroOps := by
  refine ⟨fun s bs hf => writeStep_of_fail hf bs, fun s bs hf => ?_, fun s m => ?_, fun s => ?_⟩
  · obtain ⟨k, e, hd, hk, hlisted⟩ := s.drawTaken_answer bs.length
    have hshort : (k != bs.length) = decide (k ≠ bs.length) := by
      rw [Bool.eq_iff_iff, bne_iff_ne, decide_eq_true_iff]
    exact ⟨k, e, hk, (writeStep_of_not_fail hf hd).trans (by rw [hshort]; rfl), hlisted⟩
  · obtain ⟨rx, e, hd, hrx, hlisted⟩ := s.drawRx_answer m
    exact ⟨rx, e, hrx, by simp only [execMicro, readStep, hd]; rfl, hlisted⟩
  · obtain ⟨ok, e, hd, hlisted⟩ := s.drawWake_answer
    exact ⟨ok, e, by simp only [execMicro, wakeStep, hd]; rfl, hlisted⟩

/-! ### No step is stuck -/

/-- An outside's action is performed, unless it is an access of another width (R42, R44). -/
theorem inputStep_next (i : Input) (s : State) :
    (∃ t, inputStep i s = .next t) ∨ ∃ n, i = .otherWidth n := by
  cases i with
  | read a => exact .inl ⟨_, rfl⟩
  | write a v => exact .inl (hostWrite_next a v s)
  | poll => exact .inl ⟨_, rfl⟩
  | readRxIfOk n => exact .inl ⟨_, rfl⟩
  | otherWidth n => exact .inr ⟨n, rfl⟩
  | reset role sid => exact .inl ⟨_, rfl⟩

/-- A running command has a micro-op due (R29). -/
theorem State.Running.exists_currentOp {s : State} {i : Instr} (hr : s.Running i) : ∃ u, s.currentOp = some u :=
  ⟨_, List.getElem?_eq_getElem hr.phase⟩

/-- Settles O49, by who moves. -/
theorem noStepIsStuck : Obligations.NoStepIsStuck := by
  intro s h
  rcases moves_total s with ⟨i, u, hu⟩ | ⟨u, hu⟩ | ⟨hi, hb⟩
  · rcases inputStep_next i u with ⟨t, ht⟩ | ⟨n, rfl⟩
    · exact .inl ⟨t, (step_of_takes hu).trans ht⟩
    · exact .inr ⟨n, u, hu, step_of_takes hu⟩
  · obtain ⟨i, hr⟩ := h.running hu.1
    obtain ⟨op, hop⟩ := hr.exists_currentOp
    have hop' : u.currentOp = some op := by rw [hu.eq_setEnv]; exact hop
    exact .inl ⟨_, (step_of_engineMoves hu).trans (engineStep_of_currentOp hop')⟩
  · exact .inl ⟨s, step_of_waiting hi hb⟩

end Sys2Proof.Machine
end

section
/-! SUPPORT. A command's run with nothing else pending: its micro-ops one after the other, ended by its FINISH (R79). -/

namespace Sys2Proof.Machine

/-- Some micro-ops, run one after the other, with PHASE moved on after each. -/
def runMicros (us : List MicroOp) (s : State) : State :=
  us.foldl (fun s u => (execMicro u s).nextPhase) s

@[simp] theorem runMicros_nil (s : State) : runMicros [] s = s := rfl

@[simp] theorem runMicros_cons (u : MicroOp) (us : List MicroOp) (s : State) :
    runMicros (u :: us) s = runMicros us (execMicro u s).nextPhase := rfl

/-! ### What micro-ops leave alone -/

/-- No micro-op takes anything off what is pending. -/
theorem execMicro_inputs (u : MicroOp) (s : State) : (execMicro u s).env.inputs = s.env.inputs := by
  cases u with
  | mode m => rfl
  | delay t => rfl
  | baud r => rfl
  | write bs =>
    rcases writeStep_cases bs s with ⟨_, h⟩ | ⟨_, k, e, _, he, _, _, h⟩
    · simp [execMicro, h]
    · simpa [execMicro, h] using he
  | read m =>
    obtain ⟨rx, e, _, he, _, _, h⟩ := readStep_cases m s
    simpa [execMicro, h] using he
  | wakep =>
    obtain ⟨ok, e, he, _, _, h⟩ := wakeStep_cases s
    simpa [execMicro, h] using he
  | finishTx =>
    rcases finishTxStep_cases s with ⟨_, h⟩ | ⟨_, h⟩ <;> simp [execMicro, h]
  | finishRxFrame n =>
    rcases finishRxFrameStep_cases n s with ⟨_, _, _, h⟩ | ⟨_, h⟩ <;> simp [execMicro, h]
  | finishRxRaw n =>
    rcases finishRxRawStep_cases n s with ⟨_, h⟩ | ⟨_, h⟩ <;> simp [execMicro, h]

theorem runMicros_cmd (us : List MicroOp) (s : State) : (runMicros us s).cmd = s.cmd := by
  induction us generalizing s with
  | nil => rfl
  | cons u us ih => exact (ih _).trans (execMicro_sameOperands u s).cmd

/-- BAUD_SET follows the micro-ops (R33). -/
theorem runMicros_baudSet (us : List MicroOp) (s : State) : (runMicros us s).baudSet = baudAfter s.baudSet us := by
  induction us generalizing s with
  | nil => rfl
  | cons u us ih =>
    calc (runMicros us (execMicro u s).nextPhase).baudSet
      _ = baudAfter (execMicro u s).baudSet us := ih _
      _ = baudAfter (baudAfter s.baudSet [u]) us := by rw [(execMicro_effect u s).baudSet]
      _ = baudAfter s.baudSet (u :: us) := (baudAfter_append _ [u] us).symm

/-- MODE_SET follows the micro-ops (R34). -/
theorem runMicros_modeSet (us : List MicroOp) (s : State) : (runMicros us s).modeSet = modeAfter s.modeSet us := by
  induction us generalizing s with
  | nil => rfl
  | cons u us ih =>
    calc (runMicros us (execMicro u s).nextPhase).modeSet
      _ = modeAfter (execMicro u s).modeSet us := ih _
      _ = modeAfter (modeAfter s.modeSet [u]) us := by rw [(execMicro_effect u s).modeSet]
      _ = modeAfter s.modeSet (u :: us) := (modeAfter_append _ [u] us).symm

/-- Micro-ops that are no FINISH change nothing that a host can read (R92, R102). -/
theorem runMicros_sameButCommand {us : List MicroOp} (hus : ∀ u ∈ us, u.isFinish = false) (s : State) :
    SameButCommand s (runMicros us s) := by
  induction us generalizing s with
  | nil => exact .refl s
  | cons u us ih =>
    obtain ⟨hu, hus⟩ := List.forall_mem_cons.mp hus
    have hsame := execMicro_sameOperands u s
    have hrxbuf : (execMicro u s).rxbuf = s.rxbuf := by
      rcases (execMicro_effect u s).rxbuf with h | ⟨⟨n, rfl | rfl⟩, _⟩
      · exact h
      all_goals cases hu
    exact .trans (t := (execMicro u s).nextPhase) ⟨hsame.cfg, hsame.boundPid, hsame.id, hsame.len, hsame.txbuf, hrxbuf⟩
      (ih hus _)

/-! ### The run -/

/-- What is left of a program, with nothing else pending, runs to its FINISH, one micro-op a step (R79). -/
theorem runSteps_of_drop_phase {s : State} {us : List MicroOp} {last : MicroOp} (hb : s.busy = true)
    (hi : s.env.inputs = []) (hwf : programWf s.prog = true) (hleft : s.prog.drop s.phase.toNat = us ++ [last]) :
    runSteps (us.length + 1) s = .next (execMicro last (runMicros us s)) := by
  induction us generalizing s with
  | nil =>
    have hu : s.currentOp = some last := by rw [State.currentOp, ← List.head?_drop, hleft]; rfl
    have hlen : s.prog.length - s.phase.toNat = 1 := by rw [← List.length_drop, hleft]; rfl
    have hf : last.isFinish = true := (isFinish_iff_last hwf hu).mpr (by omega)
    rw [List.length_nil, run_succ 0 (step_alone hb hi hu), run_zero, if_pos hf]
    rfl
  | cons u us ih =>
    have hu : s.currentOp = some u := by rw [State.currentOp, ← List.head?_drop, hleft]; rfl
    have hlen : s.prog.length - s.phase.toNat = us.length + 2 := by rw [← List.length_drop, hleft]; simp
    have hf : u.isFinish = false := Bool.eq_false_iff.mpr (mt (isFinish_iff_last hwf hu).mp (by omega))
    have hsame := execMicro_sameOperands u s
    have hphase : (execMicro u s).nextPhase.phase.toNat = s.phase.toNat + 1 := by
      obtain ⟨_, _, hnine, _⟩ := (programWf_iff _).mp hwf
      simp only [State.nextPhase_phase, hsame.phase, BitVec.toNat_add, BitVec.toNat_ofNat]
      omega
    rw [List.length_cons, run_succ _ (step_alone hb hi hu), if_neg (by simp [hf])]
    refine ih ?_ ?_ ?_ ?_
    · exact (execMicro_busy hf s).trans hb
    · exact (execMicro_inputs u s).trans hi
    · exact hsame.prog ▸ hwf
    · rw [hphase, State.nextPhase_prog, hsame.prog, ← List.drop_drop, hleft]
      rfl

/-- Settles O50: what is left of PROG, at least its FINISH and at most nine micro-ops, runs to the end. -/
theorem runningCommandEnds : Obligations.RunningCommandEnds := by
  intro s h hb hi
  obtain ⟨i, hr⟩ := h.running hb
  have hwf := hr.shape.wf
  have hphase := hr.phase
  obtain ⟨⟨last, hlast, hf⟩, _, hnine, _⟩ := (programWf_iff _).mp hwf
  have hlast' : (s.prog.drop s.phase.toNat).getLast? = some last := by
    rw [List.getLast?_drop, if_neg (by omega), hlast]
  obtain ⟨us, hleft⟩ := List.getLast?_eq_some_iff.mp hlast'
  have hlen : s.prog.length - s.phase.toNat = us.length + 1 := by rw [← List.length_drop, hleft]; simp
  obtain ⟨r, hr, hst⟩ := execMicro_finish_status hf (runMicros us s)
  refine ⟨_, _, r, by omega, by omega, runSteps_of_drop_phase hb hi hwf hleft, ?_, hr, hst⟩
  exact (execMicro_sameOperands last _).cmd.trans (runMicros_cmd us s)

end Sys2Proof.Machine
end

section
/-! SUPPORT. The transmit commands' runs (R80, R82 to R87): the events that a transmit program's micro-ops emit for every answer
of the ports, and what the whole run leaves. -/

namespace Sys2Proof.Machine

/-! ### The events of transmit micro-ops -/

/-- The event that MODE, DELAY and BAUD emit whatever the ports answer (R80). -/
def plainEventOf : MicroOp → Option Event
  | .mode m => some (.setMode m)
  | .delay t => some (.delay t)
  | .baud r => some (.setBaud (baudValue r))
  | .write _ => none
  | .read _ => none
  | .wakep => none
  | .finishTx => none
  | .finishRxFrame _ => none
  | .finishRxRaw _ => none

/-- MODE, DELAY, BAUD and WRITE, of which a transmit program consists up to its FINISH (R82 to R84). -/
def isTransmitOp (u : MicroOp) : Bool := (plainEventOf u).isSome || (writeOf u).isSome

/-- `TransmitTrace f us es f'`: from FAIL = `f` the micro-ops `us` may emit the events `es` and leave FAIL = `f'`. A WRITE is
one TxWrite with any answer the Transport may give, or after a failure nothing (R11, R80). -/
inductive TransmitTrace : Bool → List MicroOp → List Event → Bool → Prop
  | nil {f : Bool} : TransmitTrace f [] [] f
  | mode {f f' : Bool} {m : Mode} {us : List MicroOp} {es : List Event} (h : TransmitTrace f us es f') :
      TransmitTrace f (.mode m :: us) (.setMode m :: es) f'
  | delay {f f' : Bool} {t : Nat} {us : List MicroOp} {es : List Event} (h : TransmitTrace f us es f') :
      TransmitTrace f (.delay t :: us) (.delay t :: es) f'
  | baud {f f' : Bool} {r : BaudRate} {us : List MicroOp} {es : List Event} (h : TransmitTrace f us es f') :
      TransmitTrace f (.baud r :: us) (.setBaud (baudValue r) :: es) f'
  | write {f' : Bool} {bs : List Byte} {k : Nat} {us : List MicroOp} {es : List Event} (hk : k ≤ bs.length)
      (h : TransmitTrace (k != bs.length) us es f') :
      TransmitTrace false (.write bs :: us) (.txWrite bs k :: es) f'
  | skip {f' : Bool} {bs : List Byte} {us : List MicroOp} {es : List Event} (h : TransmitTrace true us es f') :
      TransmitTrace true (.write bs :: us) es f'

/-- Whatever the ports answer, transmit micro-ops emit the events of one of their traces. -/
theorem exists_transmitTrace {us : List MicroOp} (hus : ∀ u ∈ us, isTransmitOp u = true) (s : State) :
    ∃ es, TransmitTrace s.fail us es (runMicros us s).fail ∧ (runMicros us s).hist = s.hist ++ es := by
  induction us generalizing s with
  | nil => exact ⟨[], .nil, (List.append_nil _).symm⟩
  | cons u us ih =>
    obtain ⟨hu, hus⟩ := List.forall_mem_cons.mp hus
    obtain ⟨es, htrace, hhist⟩ := ih hus (execMicro u s).nextPhase
    cases u with
    | mode m => exact ⟨_, .mode htrace, hhist.trans (by simp [execMicro])⟩
    | delay t => exact ⟨_, .delay htrace, hhist.trans (by simp [execMicro])⟩
    | baud r => exact ⟨_, .baud htrace, hhist.trans (by simp [execMicro])⟩
    | write bs =>
      rcases writeStep_cases bs s with ⟨hf, h⟩ | ⟨hf, k, e, hk, _, _, _, h⟩
      · replace h : execMicro (.write bs) s = s := h
        rw [h] at htrace hhist
        rw [State.nextPhase_fail, hf] at htrace
        rw [runMicros_cons, h, hf]
        exact ⟨es, .skip htrace, hhist⟩
      · replace h : execMicro (.write bs) s = _ := h
        rw [h] at htrace hhist
        rw [runMicros_cons, h, hf]
        exact ⟨_, .write hk htrace, hhist.trans (by simp)⟩
    | read m => cases hu
    | wakep => cases hu
    | finishTx => cases hu
    | finishRxFrame n => cases hu
    | finishRxRaw n => cases hu

/-- Where the coming answers list those of a trace, its events are the ones emitted. -/
theorem TransmitTrace.runMicros_of_listed {f f' : Bool} {us : List MicroOp} {es : List Event} (h : TransmitTrace f us es f')
    {s : State} {rest : List Nat} (hf : s.fail = f) (hanswers : s.env.txAnswers = (txWrites es).map Prod.snd ++ rest) :
    (runMicros us s).hist = s.hist ++ es ∧ (runMicros us s).fail = f' ∧ (runMicros us s).env.txAnswers = rest := by
  induction h generalizing s with
  | nil => exact ⟨(List.append_nil _).symm, hf, hanswers⟩
  | mode _ ih => simpa [execMicro] using ih (s := (execMicro (.mode _) s).nextPhase) hf hanswers
  | delay _ ih => simpa [execMicro] using ih (s := (execMicro (.delay _) s).nextPhase) hf hanswers
  | baud _ ih => simpa [execMicro] using ih (s := (execMicro (.baud _) s).nextPhase) hf hanswers
  | @write _ bs k us es hk _ ih =>
    obtain ⟨k', e, hd, _, hlisted⟩ := s.drawTaken_answer bs.length
    obtain ⟨rfl, rfl⟩ := hlisted k ((txWrites es).map Prod.snd ++ rest) hanswers hk
    have hstep : execMicro (.write bs) s = _ := writeStep_of_not_fail hf hd
    rw [runMicros_cons, hstep]
    simpa using ih (s := (((s.setEnv _).emit (.txWrite bs k')).setFail (k' != bs.length)).nextPhase) rfl rfl
  | @skip _ bs us es _ ih =>
    have hstep : execMicro (.write bs) s = s := writeStep_of_fail hf bs
    rw [runMicros_cons, hstep]
    exact ih (s := s.nextPhase) hf hanswers

namespace TransmitTrace

variable {f f' : Bool} {us : List MicroOp} {es : List Event}

theorem length_le (h : TransmitTrace f us es f') : es.length ≤ us.length := by
  induction h with
  | nil => exact Nat.le_refl _
  | mode _ ih | delay _ ih | baud _ ih | write _ _ ih => exact Nat.succ_le_succ ih
  | skip _ ih => exact Nat.le_succ_of_le ih

/-- The events that are no TxWrite do not depend on the answers. -/
theorem filter_not_txWrite (h : TransmitTrace f us es f') :
    es.filter (fun e => (txWriteOf e).isNone) = us.filterMap plainEventOf := by
  induction h with
  | nil => rfl
  | mode _ ih | delay _ ih | baud _ ih => exact congrArg (_ :: ·) ih
  | write _ _ ih | skip _ ih => exact ih

/-- After a failure nothing is written (R80, R87). -/
theorem txWrites_of_fail (h : TransmitTrace f us es f') (hf : f = true) : txWrites es = [] ∧ f' = true := by
  induction h with
  | nil => exact ⟨rfl, hf⟩
  | mode _ ih | delay _ ih | baud _ ih => exact ih hf
  | write => cases hf
  | skip _ ih => exact ih rfl

end TransmitTrace

/-- A TxWrite of all the bytes offered. -/
def wholeWrite (bs : List Byte) : List Byte × Nat := (bs, bs.length)

/-- No retry (R87): from FAIL = 0 either every WRITE is one whole TxWrite, or the first ones are, then one that fell short is
the last. -/
theorem TransmitTrace.txWrites_cases {f f' : Bool} {us : List MicroOp} {es : List Event} (h : TransmitTrace f us es f')
    (hf : f = false) :
    (f' = false ∧ txWrites es = (programWrites us).map wholeWrite) ∨
    (f' = true ∧ ∃ before bs k after, programWrites us = before ++ bs :: after ∧ k < bs.length ∧
      txWrites es = before.map wholeWrite ++ [(bs, k)]) := by
  induction h with
  | nil => exact .inl ⟨hf, rfl⟩
  | mode _ ih | delay _ ih | baud _ ih => exact ih hf
  | @write f' bs k us es hk h ih =>
    by_cases hwhole : k = bs.length
    · subst hwhole
      rcases ih (by simp) with ⟨hf', hw⟩ | ⟨hf', before, bs', k', after, hp, hk', hw⟩
      · exact .inl ⟨hf', congrArg (wholeWrite bs :: ·) hw⟩
      · exact .inr ⟨hf', bs :: before, bs', k', after, congrArg (bs :: ·) hp, hk', congrArg (wholeWrite bs :: ·) hw⟩
    · obtain ⟨hw, hf'⟩ := h.txWrites_of_fail (by simpa using hwhole)
      exact .inr ⟨hf', [], bs, k, programWrites us, rfl, by omega, congrArg ((bs, k) :: ·) hw⟩
  | skip => cases hf

theorem wholeWrite_length {w : List Byte × Nat} {l : List (List Byte)} (h : w ∈ l.map wholeWrite) : w.2 = w.1.length := by
  obtain ⟨bs, _, rfl⟩ := List.mem_map.mp h
  rfl

theorem map_fst_wholeWrite (l : List (List Byte)) : (l.map wholeWrite).map Prod.fst = l := by
  rw [List.map_map]
  exact List.map_id l

namespace TransmitTrace

variable {f : Bool} {us : List MicroOp} {es : List Event}

/-- The bytes offered are those of the first WRITEs, in order. -/
theorem txWrites_isPrefix (h : TransmitTrace false us es f) : (txWrites es).map Prod.fst <+: programWrites us := by
  rcases h.txWrites_cases rfl with ⟨_, hw⟩ | ⟨_, before, bs, k, after, hp, _, hw⟩
  · rw [hw, map_fst_wholeWrite]
  · rw [hw, hp, List.map_append, map_fst_wholeWrite]
    exact ⟨after, by simp⟩

/-- All but the last TxWrite are whole. -/
theorem length_of_mem_dropLast_txWrites (h : TransmitTrace false us es f) :
    ∀ w ∈ (txWrites es).dropLast, w.2 = w.1.length := by
  intro w hmem
  rcases h.txWrites_cases rfl with ⟨_, hw⟩ | ⟨_, before, bs, k, after, _, _, hw⟩ <;> rw [hw] at hmem
  · exact wholeWrite_length (List.mem_of_mem_dropLast hmem)
  · rw [List.dropLast_concat] at hmem
    exact wholeWrite_length hmem

/-- FAIL is left set exactly when a TxWrite fell short (R31). -/
theorem fail_iff (h : TransmitTrace false us es f) : f = true ↔ ∃ w ∈ txWrites es, w.2 < w.1.length := by
  rcases h.txWrites_cases rfl with ⟨rfl, hw⟩ | ⟨rfl, before, bs, k, after, _, hk, hw⟩ <;> rw [hw]
  · refine ⟨nofun, ?_⟩
    rintro ⟨w, hmem, hlt⟩
    exact absurd (wholeWrite_length hmem) hlt.ne
  · exact ⟨fun _ => ⟨(bs, k), by simp, hk⟩, fun _ => rfl⟩

/-- Without a failure every WRITE had its TxWrite. -/
theorem txWrites_eq_of_not_fail (h : TransmitTrace false us es f) (hf : f = false) :
    (txWrites es).map Prod.fst = programWrites us := by
  rcases h.txWrites_cases rfl with ⟨_, hw⟩ | ⟨hf', _⟩
  · rw [hw, map_fst_wholeWrite]
  · simp [hf] at hf'

end TransmitTrace

/-! ### The bracket -/

/-- The events of a bracket (R83) around the events `mid` of its body. -/
def bracketEvents (mid : List Event) : List Event :=
  .setMode .normal :: .delay Config.tModeMs :: (mid ++ [.setMode .sleep, .delay Config.tModeMs])

/-- The state in which a bracket's body starts (R83). -/
def openBracket (t : State) : State := runMicros [.mode .normal, .delay Config.tModeMs] t

/-- A bracket adds its events to those of its body, and neither FAIL nor the answers depend on it. -/
theorem runMicros_bracket {t : State} {body : List MicroOp} {mid : List Event}
    (h : (runMicros body (openBracket t)).hist = (openBracket t).hist ++ mid) :
    (runMicros (bracket body) t).hist = t.hist ++ bracketEvents mid ∧
    (runMicros (bracket body) t).fail = (runMicros body (openBracket t)).fail ∧
    (runMicros (bracket body) t).env = (runMicros body (openBracket t)).env := by
  have hsplit : runMicros (bracket body) t =
      runMicros [.mode .sleep, .delay Config.tModeMs] (runMicros body (openBracket t)) := by
    simp only [bracket, runMicros, openBracket, List.foldl_append]
  rw [hsplit]
  refine ⟨?_, by simp [execMicro], by simp [execMicro]⟩
  calc (runMicros body (openBracket t)).hist ++ [.setMode .sleep] ++ [.delay Config.tModeMs]
    _ = t.hist ++ [.setMode .normal] ++ [.delay Config.tModeMs] ++ mid ++ [.setMode .sleep] ++ [.delay Config.tModeMs] := by
        rw [h]; rfl
    _ = t.hist ++ bracketEvents mid := by simp [bracketEvents]

/-- A bracket asks for no rate. -/
theorem baudAfter_bracket (b : BaudRate) (body : List MicroOp) : baudAfter b (bracket body) = baudAfter b body :=
  baudAfter_append b (.mode .normal :: .delay Config.tModeMs :: body) [.mode .sleep, .delay Config.tModeMs]

/-- A bracket ends in Sleep (R83). -/
theorem modeAfter_bracket (m : ModeMark) (body : List MicroOp) : modeAfter m (bracket body) = .known .sleep :=
  modeAfter_append m (.mode .normal :: .delay Config.tModeMs :: body) [.mode .sleep, .delay Config.tModeMs]

/-- A bracket and FINISH_TX add no WRITE to those of the body. -/
theorem programWrites_transmitProgram (body : List MicroOp) :
    programWrites (transmitProgram body) = programWrites body := by
  simp [programWrites, transmitProgram, bracket, List.filterMap_append, List.filterMap_cons, writeOf]

/-! ### The whole run -/

/-- What a transmit command's run leaves, when its body emits `mid` and leaves FAIL = `f`: the bracket around `mid`, the result,
the rate that the body leaves, the mode Sleep, and every address but CMD's and STATUS's as before (R82, R83, R102). -/
structure TransmitEnds (i : Instr) (s : State) (body : List MicroOp) (mid : List Event) (f : Bool) (u : State) : Prop where
  cmd : u.cmd = opcode i
  hist : u.hist = s.hist ++ bracketEvents mid
  status : u.status = if f then 0x02#8 else 0x01#8
  baudSet : u.baudSet = baudAfter s.baudSet body
  modeSet : u.modeSet = .known .sleep
  readReg : ∀ a : Addr, a ≠ 0x02#6 → a ≠ 0x05#6 → u.readReg a = s.readReg a

theorem SameButCommand.setStatus {s t : State} (h : SameButCommand s t) (v : Byte) : SameButCommand s (t.setStatus v) :=
  ⟨h.cfg, h.boundPid, h.id, h.len, h.txbuf, h.rxbuf⟩

/-- A transmit program runs its bracket and then FINISH_TX. -/
theorem runSteps_transmitProgram {t : State} {body : List MicroOp} (hb : t.busy = true) (hi : t.env.inputs = [])
    (hphase : t.phase = 0#4) (hprog : t.prog = transmitProgram body) (hwf : programWf t.prog = true) :
    runSteps (transmitProgram body).length t = .next (execMicro .finishTx (runMicros (bracket body) t)) := by
  have hleft : t.prog.drop t.phase.toNat = bracket body ++ [.finishTx] := by
    rw [hphase]
    exact List.drop_zero.trans hprog
  rw [transmitProgram, List.length_append]
  exact runSteps_of_drop_phase hb hi hwf hleft

theorem commandRun_of_exec {i : Instr} {s t : State} (h : exec i s = .next t) (k : Nat) :
    commandRun i k s = runSteps k t := by
  simp only [commandRun, h]

section Run

variable {i : Instr} {s t : State} {body : List MicroOp} {mid : List Event} {f : Bool}

/-- The run of an accepted transmit command, by the events and the FAIL that its body leaves. -/
theorem exists_transmitEnds_of_body (hi : s.env.inputs = []) (hbound : s.lenExceeds (boundOf i) = false)
    (hprog : programOf i s = transmitProgram body) (ht : t = (s.setCmd (opcode i)).start (programOf i s))
    (hmid : (runMicros body (openBracket t)).hist = (openBracket t).hist ++ mid)
    (hf : (runMicros body (openBracket t)).fail = f) :
    ∃ u, runSteps (transmitProgram body).length t = .next u ∧ TransmitEnds i s body mid f u ∧
      u.env = (runMicros body (openBracket t)).env := by
  have hwf : programWf t.prog = true := ht ▸ (programOf_shape hbound).wf
  have hprog' : t.prog = transmitProgram body := by rw [ht]; exact hprog
  obtain ⟨hb, hi', hphase, hcmd, hbaud, hhist⟩ : t.busy = true ∧ t.env.inputs = [] ∧ t.phase = 0#4 ∧
      t.cmd = opcode i ∧ t.baudSet = s.baudSet ∧ t.hist = s.hist := by
    subst ht
    exact ⟨State.start_busy _ _, hi, rfl, rfl, rfl, rfl⟩
  have hsame : SameButCommand s t := by
    subst ht
    exact ⟨rfl, rfl, rfl, rfl, rfl, rfl⟩
  obtain ⟨hhist', hfail', henv'⟩ := runMicros_bracket hmid
  have hrun := runSteps_transmitProgram hb hi' hphase hprog' hwf
  rw [execMicro_finishTx, hfail', hf] at hrun
  obtain ⟨_, hinit, _⟩ := (programWf_iff _).mp hwf
  rw [hprog', transmitProgram, List.dropLast_concat] at hinit
  have hsame' := hsame.trans (runMicros_sameButCommand hinit t)
  have hcmd' := (runMicros_cmd (bracket body) t).trans hcmd
  have hbaud' := (runMicros_baudSet (bracket body) t).trans (baudAfter_bracket _ _)
  have hmode' := (runMicros_modeSet (bracket body) t).trans (modeAfter_bracket _ _)
  rw [hbaud] at hbaud'
  rw [hhist] at hhist'
  generalize runMicros (bracket body) t = r at *
  exact ⟨_, hrun, ⟨hcmd', hhist', rfl, hbaud', hmode', (hsame'.setStatus _).readReg_eq⟩, henv'⟩

/-- Whatever the ports answer, an accepted transmit command's run emits one of its body's traces inside the bracket. -/
theorem exists_transmitEnds (hi : s.env.inputs = []) (hbound : s.lenExceeds (boundOf i) = false)
    (hprog : programOf i s = transmitProgram body) (hbody : ∀ u ∈ body, isTransmitOp u = true)
    (ht : t = (s.setCmd (opcode i)).start (programOf i s)) :
    ∃ u mid f, runSteps (transmitProgram body).length t = .next u ∧ TransmitTrace false body mid f ∧
      TransmitEnds i s body mid f u := by
  obtain ⟨mid, htrace, hmid⟩ := exists_transmitTrace hbody (openBracket t)
  have hfail : (openBracket t).fail = false := by
    subst ht
    rfl
  rw [hfail] at htrace
  obtain ⟨u, hrun, hends, _⟩ := exists_transmitEnds_of_body hi hbound hprog ht hmid rfl
  exact ⟨u, mid, _, hrun, htrace, hends⟩

/-- Where the coming answers list those of a trace of a transmit command's body, the command's run emits that trace. -/
theorem exists_commandRun_of_trace (hb : s.busy = false) (hi : s.env.inputs = [])
    (hbound : s.lenExceeds (boundOf i) = false) (hprog : programOf i s = transmitProgram body)
    (htrace : TransmitTrace false body mid f) {rest : List Nat}
    (hanswers : s.env.txAnswers = (txWrites mid).map Prod.snd ++ rest) :
    ∃ u, commandRun i (transmitProgram body).length s = .next u ∧ TransmitEnds i s body mid f u ∧
      u.env.txAnswers = rest := by
  obtain ⟨hmid, hf, hrest⟩ := htrace.runMicros_of_listed
    (s := openBracket ((s.setCmd (opcode i)).start (programOf i s))) rfl hanswers
  obtain ⟨u, hrun, hends, hu⟩ := exists_transmitEnds_of_body hi hbound hprog rfl hmid hf
  exact ⟨u, (commandRun_of_exec (exec_of_idle hb hbound) _).trans hrun, hends, hu ▸ hrest⟩

/-- What else is pending, and the coming answers, do not enter into what a run leaves. -/
theorem TransmitEnds.of_alone {u : State} {tx : List Nat} {rx : List (List Byte)} {wk : List Bool}
    (h : TransmitEnds i (s.alone tx rx wk) body mid f u) : TransmitEnds i s body mid f u :=
  ⟨h.cmd, h.hist, h.status, h.baudSet, h.modeSet, h.readReg⟩

end Run

/-! ### The runs with listed answers (R84 to R86) -/

/-- The events of a break (R82) whose write is answered `k`. -/
def breakEvents (k : Nat) : List Event :=
  [.setBaud (Config.nominalBaud / 2), .txWrite [0x00#8] k, .setBaud Config.nominalBaud]

section Break

variable {i : Instr} {s : State} {bs : List Byte} (hb : s.busy = false) (hbound : s.lenExceeds (boundOf i) = false)
  (hprog : programOf i s = transmitProgram (breakOps ++ [.write bs])) (rest : List Nat) (rx : List (List Byte))
  (wk : List Bool)

include hb hbound hprog

/-- A command whose break is taken writes its bytes. -/
theorem commandRun_of_break_taken {k : Nat} (hk : k ≤ bs.length) :
    ∃ t, commandRun i 9 (s.alone (1 :: k :: rest) rx wk) = .next t ∧
      TransmitEnds i s (breakOps ++ [.write bs]) (breakEvents 1 ++ [.txWrite bs k]) (k != bs.length) t ∧
      t.env.txAnswers = rest := by
  have htrace : TransmitTrace false (breakOps ++ [.write bs]) (breakEvents 1 ++ [.txWrite bs k]) (k != bs.length) :=
    .baud (.write (Nat.le_refl 1) (.baud (.write hk .nil)))
  obtain ⟨t, hrun, hends, hrest⟩ :=
    exists_commandRun_of_trace (s := s.alone (1 :: k :: rest) rx wk) hb rfl hbound hprog htrace rfl
  exact ⟨t, hrun, hends.of_alone, hrest⟩

/-- A command whose break fails writes nothing more (R80). -/
theorem commandRun_of_break_failed :
    ∃ t, commandRun i 9 (s.alone (0 :: rest) rx wk) = .next t ∧
      TransmitEnds i s (breakOps ++ [.write bs]) (breakEvents 0) true t ∧ t.env.txAnswers = rest := by
  have htrace : TransmitTrace false (breakOps ++ [.write bs]) (breakEvents 0) true :=
    .baud (.write (Nat.zero_le 1) (.baud (.skip .nil)))
  obtain ⟨t, hrun, hends, hrest⟩ :=
    exists_commandRun_of_trace (s := s.alone (0 :: rest) rx wk) hb rfl hbound hprog htrace rfl
  exact ⟨t, hrun, hends.of_alone, hrest⟩

end Break

/-- The result is TRANSPORT_ERROR where an answer falls short (R31). -/
theorem status_of_answer (k n : Nat) :
    (if k != n then 0x02#8 else 0x01#8 : Byte) = if k = n then 0x01#8 else 0x02#8 := by
  by_cases h : k = n <;> simp [h]

theorem State.length_payload {s : State} (h : s.len.toNat ≤ 16) : s.payload.length = s.len.toNat := by
  simpa [State.payload, State.lenOperand] using h

/-- Settles O51: a run with a break, whose write is the frame. -/
theorem txFrameRun : Obligations.TxFrameRun := by
  rintro s _ _ rest hb hlen rfl rfl
  have hbound : s.lenExceeds (boundOf .txFrame) = false := State.lenExceeds_some_false.mpr hlen
  refine ⟨?_, fun k hk => ?_, ?_⟩
  · have h16 : s.len.toNat ≤ 16 := by omega
    simpa using h16
  · obtain ⟨t, hrun, h, hrest⟩ := commandRun_of_break_taken hb hbound rfl rest s.env.rxAnswers s.env.wakeAnswers hk
    exact ⟨t, hrun, h.hist, h.status.trans (status_of_answer _ _), h.cmd, h.baudSet, h.modeSet, hrest, h.readReg⟩
  · obtain ⟨t, hrun, h, hrest⟩ := commandRun_of_break_failed hb hbound rfl rest s.env.rxAnswers s.env.wakeAnswers
    exact ⟨t, hrun, h.hist, h.status, h.cmd, h.baudSet, h.modeSet, hrest, h.readReg⟩

/-- Settles O52: a run with a break, whose write is the header. -/
theorem txHeaderRun : Obligations.TxHeaderRun := by
  intro s rest hb
  have hbound : s.lenExceeds (boundOf .txHeader) = false := s.lenExceeds_none
  constructor
  · intro k hk
    obtain ⟨t, hrun, h, hrest⟩ := commandRun_of_break_taken hb hbound rfl rest s.env.rxAnswers s.env.wakeAnswers hk
    exact ⟨t, hrun, h.hist, h.status.trans (status_of_answer _ _), h.cmd, h.baudSet, h.modeSet, hrest, h.readReg⟩
  · obtain ⟨t, hrun, h, hrest⟩ := commandRun_of_break_failed hb hbound rfl rest s.env.rxAnswers s.env.wakeAnswers
    exact ⟨t, hrun, h.hist, h.status, h.cmd, h.baudSet, h.modeSet, hrest, h.readReg⟩

/-- Settles O53: a run whose body is one WRITE, of the response. -/
theorem txResponseRun : Obligations.TxResponseRun := by
  rintro s _ k rest hb hlen rfl hk
  have hlength : (responseBytes s.payload).length = s.len.toNat + 1 := by
    simp [responseBytes, State.length_payload (s := s) (by omega)]
  have htrace : TransmitTrace false [.write (responseBytes s.payload)] [.txWrite (responseBytes s.payload) k]
      (k != (responseBytes s.payload).length) := .write (hlength ▸ hk) .nil
  obtain ⟨t, hrun, hends, -⟩ := exists_commandRun_of_trace (i := .txResponse)
    (s := s.alone (k :: rest) s.env.rxAnswers s.env.wakeAnswers) hb rfl (State.lenExceeds_some_false.mpr hlen) rfl htrace rfl
  have h := hends.of_alone
  rw [hlength] at h
  exact ⟨t, hrun, h.hist, h.status.trans (status_of_answer _ _), h.cmd, h.baudSet, h.modeSet, h.readReg⟩

/-! ### The runs with any answers (R87) -/

/-- A transmit command's body: of at most four micro-ops that transmit, whose plain events and rates are those of a break, or of
nothing for TX_RESPONSE (R82, R84 to R86, R94). -/
theorem exists_transmitBody {i : Instr} (hi : i = .txFrame ∨ i = .txHeader ∨ i = .txResponse ∨ i = .txRaw) (s : State) :
    ∃ body, programOf i s = transmitProgram body ∧ (∀ u ∈ body, isTransmitOp u = true) ∧ body.length ≤ 4 ∧
      body.filterMap plainEventOf =
        (if i = .txResponse then [] else [.setBaud (Config.nominalBaud / 2), .setBaud Config.nominalBaud]) ∧
      baudAfter s.baudSet body = (if i = .txResponse then s.baudSet else .nominal) := by
  have hbreak : ∀ (bs : List Byte), ∀ u ∈ breakOps ++ [.write bs], isTransmitOp u = true := by
    simp [breakOps, isTransmitOp, plainEventOf, writeOf]
  obtain rfl | rfl | rfl | rfl := hi
  · exact ⟨_, rfl, hbreak _, Nat.le_refl 4, rfl, rfl⟩
  · exact ⟨_, rfl, hbreak _, Nat.le_refl 4, rfl, rfl⟩
  · exact ⟨[.write (responseBytes s.payload)], rfl, by simp [isTransmitOp, writeOf], by simp, rfl, rfl⟩
  · exact ⟨_, rfl, hbreak _, Nat.le_refl 4, rfl, rfl⟩

/-- Settles O58: whatever the answers, the body emits one of its traces inside the bracket, and no trace retries. -/
theorem transmitAlwaysRestores : Obligations.TransmitAlwaysRestores := by
  intro i s t hi hb hin he hbusy
  rw [exec_eq_accept] at he
  obtain ⟨hb', _⟩ | ⟨_, _, rfl⟩ | ⟨_, hbound, ht⟩ := acceptCommand_cases he
  · simp [hb] at hb'
  · simp at hbusy
  obtain ⟨body, hprog, hops, hfour, hplain, hbaud⟩ := exists_transmitBody hi s
  obtain ⟨u, mid, f, hrun, htrace, hends⟩ := exists_transmitEnds hin hbound hprog hops ht
  have hprog' : t.prog = transmitProgram body := by rw [ht]; exact hprog
  have hfail : u.status = 0x02#8 ↔ f = true := by rw [hends.status]; cases f <;> decide
  have hok : u.status = 0x01#8 ↔ f = false := by rw [hends.status]; cases f <;> decide
  rw [hprog', programWrites_transmitProgram]
  refine ⟨u, mid, hrun, ?_, ?_, ?_, htrace.length_le.trans hfour, htrace.filter_not_txWrite.trans hplain,
    htrace.txWrites_isPrefix, htrace.length_of_mem_dropLast_txWrites, hfail.trans htrace.fail_iff,
    fun h => htrace.txWrites_eq_of_not_fail (hok.mp h), hends.modeSet, hends.baudSet.trans hbaud, hends.readReg⟩
  · rw [State.busy, hends.status]
    cases f <;> rfl
  · rw [hok, hfail]
    cases f <;> simp
  · simpa [bracketEvents] using hends.hist

end Sys2Proof.Machine
end

section
/-! SUPPORT. Frame reception (R88 to R93): what FINISH_RXFRAME makes of the staged bytes, RX_FRAME's run, and a frame's way from
one block to another. -/

namespace Sys2Proof.Machine

/-! ### What a receive finish makes of the staged bytes (R89 to R92) -/

/-- R89's checks in their order: the result of FINISH_RXFRAME(n) where STAGE is `b`. -/
def State.frameResult (s : State) (n : Nat) (b : List Byte) : Result :=
  if b.length < n + 3 then .transportError
  else if s.identifierAccepted (b.getD 1 0x00#8) = false then .identifierMismatch
  else if checksumOk ((b.drop 2).take n) (b.getD (n + 2) 0x00#8) = false then .checksumMismatch
  else .ok

/-- RXBUF after FINISH_RXFRAME(n) where STAGE is `b`: the data bytes from entry 0 on, if the result is OK (R92). -/
def State.frameRxbuf (s : State) (n : Nat) (b : List Byte) : Vector Byte 16 :=
  if s.frameResult n b = .ok then storeBytes s.rxbuf 0 ((b.drop 2).take n) else s.rxbuf

/-- R89's slice `STAGE[2..n+1]` is the `n` bytes after the first two. -/
theorem slice_two (b : List Byte) (n : Nat) : slice b 2 (n + 1) = (b.drop 2).take n := rfl

/-- FINISH_RXFRAME changes STATUS and RXBUF and nothing else. -/
theorem execMicro_finishRxFrame (n : Nat) (s : State) :
    execMicro (.finishRxFrame n) s = (s.setRxbuf (s.frameRxbuf n s.stage)).finish (s.frameResult n s.stage) := by
  simp only [execMicro, finishRxFrameStep, byteAt, slice_two, State.frameRxbuf, State.frameResult, Bool.not_eq_true']
  split
  · rfl
  split
  · rfl
  split <;> rfl

@[simp] theorem execMicro_finishRxFrame_status (n : Nat) (s : State) :
    (execMicro (.finishRxFrame n) s).status = statusByte false (s.frameResult n s.stage) := by
  rw [execMicro_finishRxFrame, State.finish_status]

@[simp] theorem execMicro_finishRxFrame_rxbuf (n : Nat) (s : State) :
    (execMicro (.finishRxFrame n) s).rxbuf = s.frameRxbuf n s.stage := by
  rw [execMicro_finishRxFrame, State.finish_rxbuf, State.setRxbuf_rxbuf]

/-- Each result has a STATUS byte of its own (R66). -/
theorem statusByte_inj {busy : Bool} {r r' : Result} : statusByte busy r = statusByte busy r' ↔ r = r' := by
  constructor
  · intro h
    have hcode : resultCode r = resultCode r' := by simpa using congrArg (·.extractLsb' 0 4) h
    revert hcode
    cases r <;> cases r' <;> decide
  · exact congrArg _

section Result

variable {s : State} {n : Nat} {b : List Byte}

theorem State.frameResult_of_short (h : b.length < n + 3) : s.frameResult n b = .transportError := if_pos h

theorem State.frameResult_eq_identifierMismatch_iff (h : n + 3 ≤ b.length) :
    s.frameResult n b = .identifierMismatch ↔ ¬s.identifierAccepted (b.getD 1 0x00#8) = true := by
  unfold State.frameResult
  rw [if_neg (by omega)]
  cases s.identifierAccepted (b.getD 1 0x00#8)
  · exact iff_of_true rfl nofun
  · cases checksumOk ((b.drop 2).take n) (b.getD (n + 2) 0x00#8) <;> exact iff_of_false nofun (not_not_intro rfl)

/-- Once the identifier byte is accepted, the checksum decides. -/
theorem State.frameResult_of_accepted (h : n + 3 ≤ b.length) (hid : s.identifierAccepted (b.getD 1 0x00#8) = true) :
    s.frameResult n b =
      if checksumOk ((b.drop 2).take n) (b.getD (n + 2) 0x00#8) then .ok else .checksumMismatch := by
  unfold State.frameResult
  rw [if_neg (by omega), hid, if_neg nofun]
  cases checksumOk ((b.drop 2).take n) (b.getD (n + 2) 0x00#8) <;> rfl

theorem State.frameResult_eq_ok_iff (h : n + 3 ≤ b.length) :
    s.frameResult n b = .ok ↔ s.identifierAccepted (b.getD 1 0x00#8) = true ∧
      checksumOk ((b.drop 2).take n) (b.getD (n + 2) 0x00#8) = true := by
  by_cases hid : s.identifierAccepted (b.getD 1 0x00#8) = true
  · rw [State.frameResult_of_accepted h hid, and_iff_right hid]
    simp
  · rw [(State.frameResult_eq_identifierMismatch_iff h).mpr hid]
    exact iff_of_false nofun fun hok => hid hok.1

theorem State.frameRxbuf_of_ne_ok (h : s.frameResult n b ≠ .ok) : s.frameRxbuf n b = s.rxbuf := if_neg h

theorem State.frameRxbuf_getElem_of_ok (hlen : n + 3 ≤ b.length) (h : s.frameResult n b = .ok) {i : Nat} (hi : i < 16) :
    (s.frameRxbuf n b)[i] = if i < n then b.getD (i + 2) 0x00#8 else s.rxbuf[i] := by
  have hdata : ((b.drop 2).take n).length = n := by simp; omega
  simp only [State.frameRxbuf, h, if_true, storeBytes_get, hdata, Nat.zero_le, true_and, Nat.zero_add, Nat.sub_zero]
  split_ifs with hin
  · simp [List.getD_eq_getElem?_getD, hin, Nat.add_comm]
  · rfl

end Result

/-- A slave accepts BOUND_PID alone (R90). -/
theorem State.identifierAccepted_slave {s : State} (h : s.role = .slave) (b : Byte) :
    s.identifierAccepted b = true ↔ b = s.boundPid := by
  simp [State.identifierAccepted, h]

/-- A master accepts what PARITY_OK does (R90). -/
theorem State.identifierAccepted_master {s : State} (h : s.role = .master) (b : Byte) :
    s.identifierAccepted b = parityOk b := by
  simp [State.identifierAccepted, h]

/-- The role's check as R89 lists it. -/
theorem State.identifierAccepted_iff (s : State) (b : Byte) :
    s.identifierAccepted b = true ↔ (s.role = .slave ∧ b = s.boundPid) ∨ (s.role = .master ∧ parityOk b = true) := by
  cases h : s.role with
  | slave => simp [State.identifierAccepted_slave h]
  | master => simp [State.identifierAccepted_master h]

/-- A finish with an error changes STATUS alone (R102). -/
theorem execMicro_finishRxFrame_of_error {s : State} {n : Nat} {r : Result} (h : s.frameResult n s.stage = r)
    (hr : r ≠ .ok) : execMicro (.finishRxFrame n) s = { s with status := statusByte false r } := by
  subst h
  rw [execMicro_finishRxFrame, State.frameRxbuf_of_ne_ok hr]
  rfl

/-- Settles O34: each clause's conditions fix the result of the checks. -/
theorem finishRxFrame : Obligations.FinishRxFrame := by
  intro s n
  have hforeign (hlen : n + 3 ≤ s.stage.length) (hid : ¬s.identifierAccepted (s.stage.getD 1 0x00#8) = true) :
      execMicro (.finishRxFrame n) s = { s with status := 0x04#8 } :=
    execMicro_finishRxFrame_of_error ((State.frameResult_eq_identifierMismatch_iff hlen).mpr hid) nofun
  refine ⟨fun hshort => ?_, fun hlen hrole hne => ?_, fun hlen hrole hpar => ?_,
    fun hlen hid => ⟨fun hsum => ?_, fun hsum => ?_⟩⟩
  · exact execMicro_finishRxFrame_of_error (State.frameResult_of_short hshort) nofun
  · exact hforeign hlen ((State.identifierAccepted_slave hrole _).not.mpr hne)
  · exact hforeign hlen (by rw [State.identifierAccepted_master hrole, hpar]; nofun)
  · refine execMicro_finishRxFrame_of_error (r := .checksumMismatch) ?_ nofun
    rw [State.frameResult_of_accepted hlen ((s.identifierAccepted_iff _).mpr hid), hsum]
    rfl
  · have hok := (State.frameResult_eq_ok_iff hlen).mpr ⟨(s.identifierAccepted_iff _).mpr hid, hsum⟩
    exact ⟨s.frameRxbuf n s.stage, by rw [execMicro_finishRxFrame, hok]; rfl,
      fun i hi => State.frameRxbuf_getElem_of_ok hlen hok hi⟩

/-- Settles O36: the checks and the data start at the second byte. -/
theorem synchByteNotChecked : Obligations.SynchByteNotChecked := by
  constructor
  · intro s n b c rest
    have hresult : s.frameResult n (b :: rest) = s.frameResult n (c :: rest) := rfl
    have hrxbuf : s.frameRxbuf n (b :: rest) = s.frameRxbuf n (c :: rest) := rfl
    rw [execMicro_finishRxFrame_status, execMicro_finishRxFrame_status, execMicro_finishRxFrame_rxbuf,
      execMicro_finishRxFrame_rxbuf]
    exact ⟨congrArg (statusByte false) hresult, hrxbuf⟩
  · intro s n b rest hlen hid hsum
    have hok : s.frameResult n (b :: rest) = .ok :=
      (State.frameResult_eq_ok_iff hlen).mpr ⟨(s.identifierAccepted_iff _).mpr hid, hsum⟩
    rw [execMicro_finishRxFrame_status]
    exact congrArg (statusByte false) hok

/-- PARITY_OK compares bits 7:6 with PARITY of bits 5:0 (R90). -/
theorem parityOk_iff_masked (b : Byte) : parityOk b = true ↔ b &&& 0xC0#8 = parity (b.setWidth 6) := by
  rw [parityOk_iff]
  constructor
  · rintro ⟨h6, h7⟩
    apply BitVec.eq_of_getLsbD_eq
    intro i _
    obtain hlow | rfl | rfl : i < 6 ∨ i = 6 ∨ i = 7 := by omega
    · rw [parity_getLsbD_of_lt _ hlow]
      interval_cases i <;> simp
    · simp [h6]
    · simp [h7]
  · intro h
    exact ⟨by simpa using congrArg (·[6]) h.symm, by simpa using congrArg (·[7]) h.symm⟩

/-- Settles O37: on a complete frame the identifier check comes first, and it is the role's. -/
theorem identifierCheckByRole : Obligations.IdentifierCheckByRole := by
  intro s n hlen
  have hiff : (execMicro (.finishRxFrame n) s).status = 0x04#8 ↔
      ¬s.identifierAccepted (s.stage.getD 1 0x00#8) = true := by
    rw [execMicro_finishRxFrame_status, ← State.frameResult_eq_identifierMismatch_iff hlen]
    exact statusByte_inj (r' := .identifierMismatch)
  refine ⟨fun hrole => ?_, fun hrole => ?_, ?_⟩
  · rw [hiff, State.identifierAccepted_slave hrole]
  · rw [hiff, State.identifierAccepted_master hrole, parityOk_iff_masked]
  · obtain ⟨_, hpass, _⟩ := parityOkExactlyIdentifierBytes
    have hsplit := List.length_eq_length_filter_add (l := List.range 256) fun m => parityOk (BitVec.ofNat 8 m)
    rw [List.length_range, hpass] at hsplit
    omega

/-! ### RX_FRAME's run (R88) -/

/-- A READ whose answer is listed stages it (R11, R80). -/
theorem execMicro_read_of_listed {s : State} {m : Nat} {rx : List Byte} {rest : List (List Byte)}
    (h : s.env.rxAnswers = rx :: rest) (hrx : rx.length ≤ m) :
    execMicro (.read m) s =
      { s with hist := s.hist ++ [.rxRead m rx], stage := rx, env := { s.env with rxAnswers := rest } } := by
  obtain ⟨_, _, hread, _⟩ := askingMicroOps
  obtain ⟨_, _, _, hs, hlisted⟩ := hread s m
  obtain ⟨rfl, rfl⟩ := hlisted rx rest h hrx
  exact hs

/-- The state a receive command's FINISH finds after `READ(m)` was answered `rx`. -/
def State.afterRead (m : Nat) (rx : List Byte) (rest : List (List Byte)) (s : State) : State :=
  { s with phase := 1#4, stage := rx, hist := s.hist ++ [.rxRead m rx], env := { s.env with rxAnswers := rest } }

/-- An accepted receive program reads, and then runs its finish on what came. -/
theorem runSteps_receiveProgram {t : State} {m : Nat} {fin : MicroOp} {rx : List Byte} {rest : List (List Byte)}
    (hb : t.busy = true) (hi : t.env.inputs = []) (hphase : t.phase = 0#4) (hprog : t.prog = [.read m, fin])
    (hwf : programWf t.prog = true) (h : t.env.rxAnswers = rx :: rest) (hrx : rx.length ≤ m) :
    runSteps 2 t = .next (execMicro fin (t.afterRead m rx rest)) := by
  have hleft : t.prog.drop t.phase.toNat = [.read m] ++ [fin] := by rw [hphase, hprog]; rfl
  have hread : runMicros [.read m] t = t.afterRead m rx rest := by
    rw [runMicros_cons, runMicros_nil, execMicro_read_of_listed h hrx, State.nextPhase, hphase]
    rfl
  exact (runSteps_of_drop_phase hb hi hwf hleft).trans (by rw [hread])

/-- RX_FRAME, once accepted, reads LEN + 3 bytes and runs its finish on the answer. -/
theorem runSteps_rxFrame {s t : State} {rx : List Byte} {rest : List (List Byte)} (hi : s.env.inputs = [])
    (hlen : s.len.toNat ≤ 8) (h : s.env.rxAnswers = rx :: rest) (hrx : rx.length ≤ s.len.toNat + 3)
    (ht : t = (s.setCmd 0x04#8).start (rxFrameProgram s.len.toNat)) :
    runSteps 2 t = .next (execMicro (.finishRxFrame s.len.toNat) (t.afterRead (s.len.toNat + 3) rx rest)) := by
  have hbound : s.lenExceeds (boundOf .rxFrame) = false := State.lenExceeds_some_false.mpr hlen
  subst ht
  exact runSteps_receiveProgram (State.start_busy _ _) hi rfl rfl (programOf_shape hbound).wf h hrx

section Run

variable {s : State} {rx : List Byte} (hb : s.busy = false) (hlen : s.len.toNat ≤ 8)
  (hrx : rx.length ≤ s.len.toNat + 3) (tx : List Nat) (rest : List (List Byte)) (wk : List Bool)

include hb hlen hrx

/-- RX_FRAME's run leaves the result and the buffer that the block's checks make of the bytes read. -/
theorem exists_commandRun_rxFrame :
    ∃ u, commandRun .rxFrame 2 (s.alone tx (rx :: rest) wk) = .next u ∧
      u.status = statusByte false (s.frameResult s.len.toNat rx) ∧ u.rxbuf = s.frameRxbuf s.len.toNat rx := by
  have hexec := acceptRxFrame (s.alone tx (rx :: rest) wk) hb hlen
  exact ⟨_, (commandRun_of_exec hexec 2).trans (runSteps_rxFrame (s := s.alone tx (rx :: rest) wk) rfl hlen rfl hrx rfl),
    execMicro_finishRxFrame_status _ _, execMicro_finishRxFrame_rxbuf _ _⟩

/-- A run with an error leaves RXBUF as it was (R92). -/
theorem exists_commandRun_rxFrame_of_error {r : Result} (hr : s.frameResult s.len.toNat rx = r) (hne : r ≠ .ok) :
    ∃ u, commandRun .rxFrame 2 (s.alone tx (rx :: rest) wk) = .next u ∧ u.status = statusByte false r ∧
      u.rxbuf = s.rxbuf := by
  subst hr
  obtain ⟨u, hrun, hstatus, hrxbuf⟩ := exists_commandRun_rxFrame hb hlen hrx tx rest wk
  exact ⟨u, hrun, hstatus, hrxbuf.trans (State.frameRxbuf_of_ne_ok hne)⟩

end Run

/-- Settles O55: the program is a READ and its FINISH, and a FINISH changes neither HIST nor the rate nor the mode. -/
theorem rxFrameRun : Obligations.RxFrameRun := by
  intro s rx rest hb hlen hrx
  refine ⟨_, _, acceptRxFrame (s.alone s.env.txAnswers (rx :: rest) s.env.wakeAnswers) hb hlen,
    runSteps_rxFrame (s := s.alone s.env.txAnswers (rx :: rest) s.env.wakeAnswers) rfl hlen rfl hrx rfl, rfl, ?_, ?_, ?_,
    State.busy_of_status (execMicro_finishRxFrame_status _ _)⟩
  all_goals rw [execMicro_finishRxFrame]; rfl

/-! ### Bad frames and good frames (R93) -/

/-- Another byte in the checksum's place leaves the length, the identifier byte and the data bytes (R59). -/
theorem State.frameResult_set_checksum {s : State} {n : Nat} {b : List Byte} (h : b.length = n + 3) (c : Byte)
    (hid : s.identifierAccepted (b.getD 1 0x00#8) = true) :
    s.frameResult n (b.set (n + 2) c) =
      if checksumOk ((b.drop 2).take n) c then .ok else .checksumMismatch := by
  have hid' : (b.set (n + 2) c).getD 1 0x00#8 = b.getD 1 0x00#8 := by
    simp [List.getD_eq_getElem?_getD, List.getElem?_set_ne (show n + 2 ≠ 1 by omega)]
  have hdata : ((b.set (n + 2) c).drop 2).take n = (b.drop 2).take n := by
    rw [List.drop_set, if_neg (by omega), Nat.add_sub_cancel, List.take_set_of_le (Nat.le_refl n)]
  have hsum : (b.set (n + 2) c).getD (n + 2) 0x00#8 = c := by simp [List.getD_eq_getElem?_getD, h]
  rw [State.frameResult_of_accepted (by simp [h]) (hid' ▸ hid), hdata, hsum]

/-- Settles O59: each bad frame fails one check after it has passed those before. -/
theorem receiveRejectsBadFrames : Obligations.ReceiveRejectsBadFrames := by
  refine ⟨by decide, fun s b hb hlen => ⟨fun hshort => ?_, fun u k hfull hu hok hk => ?_,
    fun hrole hbound hfull hne => ?_⟩⟩
  · exact exists_commandRun_rxFrame_of_error hb hlen hshort.le [] [] [] (State.frameResult_of_short hshort) nofun
  · obtain ⟨u', hu', hstatus, -⟩ := exists_commandRun_rxFrame hb hlen hfull.le [] [] []
    obtain rfl : u = u' := by simpa [hu] using hu'
    have hresult : s.frameResult s.len.toNat b = .ok := statusByte_inj.mp (hstatus.symm.trans hok)
    obtain ⟨hid, hsum⟩ := (State.frameResult_eq_ok_iff hfull.ge).mp hresult
    refine exists_commandRun_rxFrame_of_error hb hlen (by simp [hfull]) [] [] [] (r := .checksumMismatch) ?_ nofun
    rw [State.frameResult_set_checksum hfull _ hid, checksumOk_xor_bit hk hsum]
    rfl
  · refine exists_commandRun_rxFrame_of_error hb hlen hfull.le [] [] [] (r := .identifierMismatch) ?_ nofun
    rwa [State.frameResult_eq_identifierMismatch_iff hfull.ge, State.identifierAccepted_slave hrole, hbound]

@[simp] theorem length_frameBytes (id : Ident) (p : List Byte) : (frameBytes id p).length = p.length + 3 := by
  simp [frameBytes, headerBytes, responseBytes]

/-- The payload stands from the third byte of a frame on (R59). -/
theorem frameBytes_getD_data (id : Ident) (p : List Byte) {i : Nat} (hi : i < p.length) :
    (frameBytes id p).getD (i + 2) 0x00#8 = p[i] := by
  simp [frameBytes, headerBytes, responseBytes, List.getElem?_append_left hi, hi]

/-- A frame as it is built passes every check of a block that accepts its identifier byte. -/
theorem State.frameResult_frameBytes {s : State} {id : Ident} (h : s.identifierAccepted (pid id) = true) (p : List Byte) :
    s.frameResult p.length (frameBytes id p) = .ok := by
  refine (State.frameResult_eq_ok_iff (length_frameBytes id p).ge).mpr ⟨h, (checksumOk_iff _ _).mpr ?_⟩
  simp [frameBytes, headerBytes, responseBytes]

/-- A block that accepts the identifier byte of a frame of its length receives the payload. -/
theorem commandRun_rxFrame_frameBytes {s : State} {id : Ident} {p : List Byte} (hb : s.busy = false) (h8 : p.length ≤ 8)
    (hlen : s.len.toNat = p.length) (hid : s.identifierAccepted (pid id) = true) (tx : List Nat) (rest : List (List Byte))
    (wk : List Bool) :
    ∃ u, commandRun .rxFrame 2 (s.alone tx (frameBytes id p :: rest) wk) = .next u ∧ u.status = 0x01#8 ∧
      ∀ (i : Nat) (_ : i < 16) (_ : i < p.length), u.rxbuf[i] = p[i] := by
  have hok : s.frameResult s.len.toNat (frameBytes id p) = .ok := by
    rw [hlen]
    exact State.frameResult_frameBytes hid p
  have hfull : (frameBytes id p).length = s.len.toNat + 3 := by rw [length_frameBytes, hlen]
  obtain ⟨u, hrun, hstatus, hrxbuf⟩ := exists_commandRun_rxFrame hb (hlen ▸ h8) hfull.le tx rest wk
  refine ⟨u, hrun, hstatus.trans (congrArg _ hok), fun i hi hip => ?_⟩
  simp only [hrxbuf]
  rw [State.frameRxbuf_getElem_of_ok hfull.ge hok hi, if_pos (hlen ▸ hip), frameBytes_getD_data id p hip]

/-- Events whose bytes do not depend on the rate before them add those bytes to the stream (R47). -/
theorem txStreamFrom_append {es : List Event} {out : List (Option Nat × Byte)} (hes : ∀ rate, txStreamFrom rate es = out)
    (rate : Option Nat) (h : List Event) : txStreamFrom rate (h ++ es) = txStreamFrom rate h ++ out := by
  induction h generalizing rate with
  | nil => exact hes rate
  | cons e h ih => cases e <;> simp [txStreamFrom, ih]

/-- A transmit bracket with a complete break and a complete write, on the transmit stream (R47, R82). -/
theorem txStreamFrom_bracketEvents (bs : List Byte) (rate : Option Nat) :
    txStreamFrom rate (bracketEvents (breakEvents 1 ++ [.txWrite bs bs.length])) =
      (some (Config.nominalBaud / 2), 0x00#8) :: bs.map (fun c => (some Config.nominalBaud, c)) := by
  simp [bracketEvents, breakEvents, txStreamFrom]

/-- Settles O60: the bytes of the sender's frame write pass the receiver's checks. -/
theorem frameRoundTrip : Obligations.FrameRoundTrip := by
  intro sTx sRx rest hbTx hlen hbRx hlenEq hrole
  have hpayload : sTx.payload.length = sTx.len.toNat := State.length_payload (by omega)
  have hid : sRx.identifierAccepted (pid sTx.identOperand) = true := by
    refine (sRx.identifierAccepted_iff _).mpr (hrole.symm.imp ?_ ?_)
    · exact fun ⟨hslave, hpid⟩ => ⟨hslave, hpid.symm⟩
    · exact fun hmaster => ⟨hmaster, parityOk_pid _⟩
  obtain ⟨t, hrunTx, hends, -⟩ := commandRun_of_break_taken (i := .txFrame) hbTx
    (State.lenExceeds_some_false.mpr hlen) rfl rest [] [] (Nat.le_refl (frameBytes sTx.identOperand sTx.payload).length)
  obtain ⟨u, hrunRx, hstatus, hrxbuf⟩ :=
    commandRun_rxFrame_frameBytes hbRx (hpayload ▸ hlen) (by rw [hlenEq, hpayload]) hid [] [] []
  refine ⟨t, frameBytes sTx.identOperand sTx.payload, ?_, by simpa using hends.status, ?_, u, hrunRx, hstatus, ?_⟩
  · rwa [length_frameBytes, hpayload] at hrunTx
  · rw [hends.hist]
    exact txStreamFrom_append (txStreamFrom_bracketEvents _) none _
  · intro i hi hin
    rw [hrxbuf i hi (hpayload ▸ hin)]
    simp [State.payload]

end Sys2Proof.Machine
end

section
/-! SUPPORT. The raw commands (R94 to R96): the finish of RX_RAW, and the runs of TX_RAW and RX_RAW. -/

namespace Sys2Proof.Machine

/-- The first `n` bytes of a list that holds as many, stored from entry 0 on, replace the first `n` entries. -/
theorem storeBytes_take_getElem (buf : Vector Byte 16) {b : List Byte} {n i : Nat} (hn : n ≤ b.length) (hi : i < 16) :
    (storeBytes buf 0 (b.take n))[i] = if i < n then b.getD i 0x00#8 else buf[i] := by
  rw [storeBytes_get, List.length_take_of_le hn, Nat.zero_add, Nat.sub_zero]
  by_cases hin : i < n <;> simp [List.getD_eq_getElem?_getD, hin]

/-- A short read changes STATUS alone (R96). -/
theorem execMicro_finishRxRaw_of_short {s : State} {n : Nat} (h : s.stage.length < n) :
    execMicro (.finishRxRaw n) s = { s with status := 0x02#8 } := if_pos h

/-- A full read goes to RXBUF, and STATUS is OK (R96). -/
theorem execMicro_finishRxRaw_of_full {s : State} {n : Nat} (h : n ≤ s.stage.length) :
    execMicro (.finishRxRaw n) s =
      { s with rxbuf := storeBytes s.rxbuf 0 (s.stage.take n), status := 0x01#8 } := if_neg h.not_gt

/-- Settles O35, by whether STAGE is short. -/
theorem finishRxRaw : Obligations.FinishRxRaw :=
  fun s _ => ⟨execMicro_finishRxRaw_of_short,
    fun hfull => ⟨_, execMicro_finishRxRaw_of_full hfull, fun _ => storeBytes_take_getElem s.rxbuf hfull⟩⟩

/-- Settles O54: a run with a break, whose write is the payload as it is. -/
theorem txRawRun : Obligations.TxRawRun := by
  rintro s _ rest hb hlen rfl
  have hbound : s.lenExceeds (boundOf .txRaw) = false := State.lenExceeds_some_false.mpr hlen
  have hlength : s.payload.length = s.len.toNat := State.length_payload hlen
  constructor
  · intro k hk
    obtain ⟨t, hrun, h, hrest⟩ :=
      commandRun_of_break_taken hb hbound rfl rest s.env.rxAnswers s.env.wakeAnswers (hlength ▸ hk)
    rw [hlength] at h
    exact ⟨t, hrun, h.hist, h.status.trans (status_of_answer _ _), h.cmd, h.baudSet, h.modeSet, hrest, h.readReg⟩
  · obtain ⟨t, hrun, h, hrest⟩ := commandRun_of_break_failed hb hbound rfl rest s.env.rxAnswers s.env.wakeAnswers
    exact ⟨t, hrun, h.hist, h.status, h.cmd, h.baudSet, h.modeSet, hrest, h.readReg⟩

/-- RX_RAW reads LEN bytes and runs its finish on the answer. -/
theorem commandRun_rxRaw {s : State} {rx : List Byte} {rest : List (List Byte)} (hb : s.busy = false)
    (hi : s.env.inputs = []) (hlen : s.len.toNat ≤ 16) (h : s.env.rxAnswers = rx :: rest) (hrx : rx.length ≤ s.len.toNat) :
    commandRun .rxRaw 2 s = .next (execMicro (.finishRxRaw s.len.toNat)
      (((s.setCmd 0x06#8).start (rxRawProgram s.len.toNat)).afterRead s.len.toNat rx rest)) := by
  have hbound : s.lenExceeds (boundOf .rxRaw) = false := State.lenExceeds_some_false.mpr hlen
  exact (commandRun_of_exec (exec_of_idle hb hbound) 2).trans
    (runSteps_receiveProgram (State.start_busy _ _) hi rfl rfl (programOf_shape hbound).wf h hrx)

/-- Settles O56, by whether the read was short. -/
theorem rxRawRun : Obligations.RxRawRun := by
  intro s rx rest hb hlen hrx
  have hrun := commandRun_rxRaw (s := s.alone s.env.txAnswers (rx :: rest) s.env.wakeAnswers) hb rfl hlen rfl hrx
  rcases hrx.lt_or_eq with hlt | heq
  · rw [execMicro_finishRxRaw_of_short hlt] at hrun
    exact ⟨_, hrun, rfl, (if_neg hlt.ne).symm, rfl, rfl, rfl, fun _ _ => (if_neg fun h => hlt.ne h.1).symm⟩
  · rw [execMicro_finishRxRaw_of_full heq.ge] at hrun
    refine ⟨_, hrun, rfl, (if_pos heq).symm, rfl, rfl, rfl, fun i hi => ?_⟩
    simp only [heq, true_and]
    exact storeBytes_take_getElem s.rxbuf heq.ge hi

end Sys2Proof.Machine
end

section
/-! SUPPORT. The bus wake-up command and the reserved command values (R97, R98). -/

namespace Sys2Proof.Machine

/-! ### A reserved command value (R98) -/

theorem acceptIllegal_of_idle {s : State} (hb : s.busy = false) (v : Byte) :
    acceptIllegal v s = .next ((s.setCmd v).finish .illegalCommand) :=
  if_neg (Bool.eq_false_iff.mp hb)

/-- A host write to CMD of a byte that is no command's opcode is an illegal command. -/
theorem hostWrite_cmd_of_error {v : Byte} {e : DecodeReject} (h : decodeCommand v = .error e) (s : State) :
    hostWrite 0x02#6 v s = acceptIllegal v s := by
  simp only [hostWrite, h, if_true]

/-- Settles O28: the decoder rejects the byte, and an idle block reports it. -/
theorem reservedCommandWrite : Obligations.ReservedCommandWrite :=
  fun s v hb hv => (hostWrite_cmd_of_error (decodeCommand_of_reserved hv) s).trans (acceptIllegal_of_idle hb v)

/-! ### WAKE's run (R97) -/

/-- A WAKEP whose answer is listed emits its pulse with that answer, and sets FAIL where the pulse failed (R11, R80). -/
theorem execMicro_wakep_of_listed {s : State} {ok : Bool} {rest : List Bool} (h : s.env.wakeAnswers = ok :: rest) :
    execMicro .wakep s =
      { s with hist := s.hist ++ [.wakePulse ok], fail := s.fail || !ok, env := { s.env with wakeAnswers := rest } } := by
  obtain ⟨_, _, _, hwake⟩ := askingMicroOps
  obtain ⟨_, _, hs, hlisted⟩ := hwake s
  obtain ⟨rfl, rfl⟩ := hlisted ok rest h
  exact hs

/-- WAKE's run is its WAKEP and then FINISH_TX, whatever LEN holds. -/
theorem commandRun_wake {s : State} (hb : s.busy = false) (hi : s.env.inputs = []) :
    commandRun .wake 2 s =
      .next (execMicro .finishTx (runMicros [.wakep] ((s.setCmd 0x07#8).start wakeProgram))) := by
  have hwf : programWf wakeProgram = true := by decide
  exact (commandRun_of_exec (exec_of_idle (i := .wake) hb s.lenExceeds_none) 2).trans
    (runSteps_of_drop_phase (us := [.wakep]) (State.start_busy wakeProgram _) hi hwf rfl)

/-- Settles O57: the pulse is the program's only event, and FINISH_TX reports the FAIL that it leaves. -/
theorem wakeRun : Obligations.WakeRun := by
  intro s ok rest hb
  have hrun := commandRun_wake (s := s.alone s.env.txAnswers s.env.rxAnswers (ok :: rest)) hb rfl
  rw [execMicro_finishTx, runMicros_cons, runMicros_nil, execMicro_wakep_of_listed rfl] at hrun
  have hstatus : (if !ok then 0x02#8 else 0x01#8 : Byte) = if ok then 0x01#8 else 0x02#8 := by cases ok <;> rfl
  exact ⟨_, hrun, rfl, hstatus, rfl, rfl, rfl, SameButCommand.readReg_eq ⟨rfl, rfl, rfl, rfl, rfl, rfl⟩⟩

end Sys2Proof.Machine
end

section
/-! SUPPORT. What an error changes and keeps (60_exceptions.md, R102). -/

namespace Sys2Proof.Machine

/-- A write of STATUS is read at STATUS's own address alone (R41). -/
theorem State.readReg_setStatus_of_ne {a : Addr} (ha : a ≠ 0x05#6) (v : Byte) (s : State) :
    (s.setStatus v).readReg a = s.readReg a := by
  by_cases hcmd : a = 0x02#6
  · subst hcmd; rfl
  · exact ((SameButCommand.refl s).setStatus v).readReg_eq a hcmd ha

/-- A FINISH writes STATUS alone, or it fills RXBUF and reports OK (R80, R89, R96). -/
theorem execMicro_finish_cases {u : MicroOp} (hf : u.isFinish = true) (s : State) :
    (∃ r, execMicro u s = s.finish r) ∨ ∃ buf, execMicro u s = (s.setRxbuf buf).finish .ok := by
  cases u with
  | mode _ | delay _ | baud _ | write _ | read _ | wakep => cases hf
  | finishTx =>
    rcases finishTxStep_cases s with ⟨_, h⟩ | ⟨_, h⟩ <;> exact .inl ⟨_, h⟩
  | finishRxFrame n =>
    rcases finishRxFrameStep_cases n s with ⟨r, _, _, h⟩ | ⟨_, h⟩
    · exact .inl ⟨r, h⟩
    · exact .inr ⟨_, h⟩
  | finishRxRaw n =>
    rcases finishRxRawStep_cases n s with ⟨_, h⟩ | ⟨_, h⟩
    · exact .inl ⟨_, h⟩
    · exact .inr ⟨_, h⟩

/-- Settles O38: the one finish that writes more than STATUS reports OK. -/
theorem errorsChangeStatusAlone : Obligations.ErrorsChangeStatusAlone := by
  intro s t u _ hu hf hstep hne
  rw [engineStep_of_currentOp hu, if_pos hf] at hstep
  cases hstep
  rcases execMicro_finish_cases hf s with ⟨r, h⟩ | ⟨buf, h⟩
  · rw [h]
    exact ⟨rfl, fun _ ha => State.readReg_setStatus_of_ne ha _ s⟩
  · rw [h] at hne
    exact absurd rfl hne

end Sys2Proof.Machine
end

section
/-! SUPPORT. The step in which a reset moves next (70_reset_and_hazards.md, R115, R116). -/

namespace Sys2Proof.Machine

/-- Where a reset moves next, the step resets the block, whether or not a command runs (R116). -/
theorem step_of_takes_reset {s u : State} {role : Role} {sid : Ident} (hu : Takes s (.reset role sid) u) :
    step s = .next (u.resetBlock role sid) :=
  step_of_takes hu

/-- A reset keeps nothing of the block: only the outside's fields come from the state before it (R115). -/
theorem State.resetBlock_eq (role : Role) (sid : Ident) (s : State) :
    s.resetBlock role sid = { State.resetWith role sid with env := s.env } := rfl

/-- Settles O2: `step_of_takes` covers the idle and the busy turn alike, and the block's reset is the reset state. -/
theorem resetAtAnyTime : Obligations.ResetAtAnyTime := by
  intro s u role sid hu
  rw [step_of_takes_reset hu, State.resetBlock_eq]

end Sys2Proof.Machine
end
